-- ==== Sys2Proof/Word.lean ====
section
/-!
DEFINITION. The words of the block: a byte on the wire, a calibration word, a raw sample, the s64 values of the
compensation and the 3-bit fields of a command (00_scope.md R10, R11).
-/

namespace Sys2Proof

/-- A byte on the wire (R11, R53). -/
abbrev Byte := BitVec 8

/-- A calibration word, an "unsigned 16-bit" value (R10, R17). -/
abbrev U16 := BitVec 16

/-- A raw sample, "a 24-bit unsigned integer" (R10, R23). -/
abbrev U24 := BitVec 24

/-- A value of the compensation's "64-bit signed intermediate arithmetic" (R10, R96, R97), two's complement. -/
abbrev S64 := BitVec 64

/-- A 3-bit field of a command: `k` of F-CONV or `i` of F-PROM (R54). -/
abbrev U3 := BitVec 3

/-- A floating output in the format of the parameter TO_FLOAT (R110); the spec names no format, so this is only a
pattern of bits. DESIGN CHOICE, safe: see notes/assumptions/15.md. -/
abbrev FloatBits := BitVec 64

end Sys2Proof
end

