-- ==== Sys2Proof/Config.lean ====
section
/-!
DEFINITION. What a construction of the block fixes (00_scope.md R9; 10_state.md R29), and the values the spec leaves
open: its OPEN parameters (R69, R91, R92, R110) and the draws of the bus and of the time source (60_exceptions.md R135,
R136). Every open value is an opaque constant with no body: nothing in Lean can evaluate it.
-/

namespace Sys2Proof

/-- The two conversions of the sensor's one ADC: D1 (pressure, `ch = 0`) and D2 (temperature, `ch = 1`) (R55). -/
inductive Channel where
  | d1
  | d2
  deriving DecidableEq, Repr, Inhabited

/-- The five legal oversampling rates (R9, R29, R55). The fields `OSR_D1.k` and `OSR_D2.k` hold one of them: the
values 5 to 7 of the 3-bit field cannot be constructed (R29). -/
inductive Osr where
  | osr256
  | osr512
  | osr1024
  | osr2048
  | osr4096
  deriving DecidableEq, Repr, Inhabited

/-- The chip-select strategy (R9, R29): used by the transport only, without effect on the block. -/
inductive CsVariant where
  | dedicatedLine
  | sharedSelectRegister
  deriving DecidableEq, Repr, Inhabited

/-- The timing parameters T_CONV (one value for each OSR) and T_RESET, in microseconds (R9, R91, R92). -/
structure Timing where
  tConv256 : Nat
  tConv512 : Nat
  tConv1024 : Nat
  tConv2048 : Nat
  tConv4096 : Nat
  tReset : Nat
  deriving DecidableEq, Repr, Inhabited

/-- The configuration "supplied at construction, not runtime-mutable" (R9, R29). -/
structure Configuration where
  osrD1 : Osr
  osrD2 : Osr
  busAddr : Nat
  csVariant : CsVariant
  strictCrc : Bool
  timing : Timing
  deriving DecidableEq, Repr, Inhabited

/-- What the bus and sensor answer to one transfer (R36, R136), as far as it is a draw. -/
inductive BusAnswer where
  /-- the transport reports failure ("bus error, timeout") -/
  | fail
  /-- the transport "returned wrong length" (R36): `rx` is what it returned. Where `rx` happens to have the right
  length it stands for the empty sequence, so this answer is always a failure. -/
  | wrongLength (rx : List Byte)
  /-- n bytes: `echo` is byte 0 (any value, U4, U5); `sample` is the measurement an ADC_READ finds (any u24, U8). The
  bytes 1, 2 of a PROM_READ are no draw: they are the sensor's PROM word (R31, R136). -/
  | answer (echo : Byte) (sample : U24)
  deriving DecidableEq, Repr, Inhabited

/-- OSR_D1 at construction (R9, R29). DESIGN CHOICE, safe: notes/assumptions/9.md. -/
opaque Config.osrD1 : Osr

/-- OSR_D2 at construction (R9, R29). DESIGN CHOICE, safe: notes/assumptions/9.md. -/
opaque Config.osrD2 : Osr

/-- BUS_ADDR at construction (R9, U17). DESIGN CHOICE, safe: notes/assumptions/9.md. -/
opaque Config.busAddr : Nat

/-- CS_VARIANT at construction (R9, U17). DESIGN CHOICE, safe: notes/assumptions/9.md. -/
opaque Config.csVariant : CsVariant

/-- T_CONV(256) at construction (R91, OPEN). DESIGN CHOICE, safe: notes/assumptions/8.md. -/
opaque Config.tConv256 : Nat

/-- One less than how much each T_CONV exceeds the one before it (R91: strictly increasing).
DESIGN CHOICE, safe: notes/assumptions/8.md. -/
opaque Config.tConvGap : Nat → Nat

/-- One less than T_RESET at construction (R92: positive, OPEN). DESIGN CHOICE, safe: notes/assumptions/8.md. -/
opaque Config.tResetPred : Nat

/-- `Now()` at power-on, "any natural number" (R32). DESIGN CHOICE, safe: notes/assumptions/10.md. -/
opaque Config.nowAtPowerOn : Nat

/-- TO_FLOAT(n, d), "a total function of its two arguments alone" (R110, U13, OPEN).
DESIGN CHOICE, safe: notes/assumptions/15.md. -/
opaque Config.toFloat : Int → Int → FloatBits

/-- CRC_CHECK, a "function from 8 words to Boolean" (R9, R69, U14, OPEN), used only when STRICT_CRC is true.
DESIGN CHOICE, safe: notes/assumptions/16.md. -/
opaque Config.crcCheck : Vector U16 8 → Bool

/-- The answer of the bus and sensor at a draw that no input has fixed (U4, U5, U7, U8).
DESIGN CHOICE, safe: notes/assumptions/4.md. -/
opaque Config.freeAnswer : Nat → BusAnswer

/-- How far the time source advances at a draw that no input has fixed (R135: "by any amount").
DESIGN CHOICE, safe: notes/assumptions/2.md. -/
opaque Config.freeAdvance : Nat → Nat

end Sys2Proof
end

