-- ==== Sys2Proof/Syntax.lean ====
section
/-!
DEFINITION. The block's instruction set, its wire commands (30_encoding.md R58), and the micro-steps its fixed
sequences are made of (R61), with the spec's mnemonics and written forms (R62).
-/

namespace Sys2Proof

/-- The 13 instructions, one constructor per row of the opcode map (R58). -/
inductive Instr where
  /-- RESET (R75) -/
  | reset
  /-- CONVERT_D1_OSR256 (R77) -/
  | convertD1Osr256
  /-- CONVERT_D1_OSR512 (R78) -/
  | convertD1Osr512
  /-- CONVERT_D1_OSR1024 (R79) -/
  | convertD1Osr1024
  /-- CONVERT_D1_OSR2048 (R80) -/
  | convertD1Osr2048
  /-- CONVERT_D1_OSR4096 (R81) -/
  | convertD1Osr4096
  /-- CONVERT_D2_OSR256 (R82) -/
  | convertD2Osr256
  /-- CONVERT_D2_OSR512 (R83) -/
  | convertD2Osr512
  /-- CONVERT_D2_OSR1024 (R84) -/
  | convertD2Osr1024
  /-- CONVERT_D2_OSR2048 (R85) -/
  | convertD2Osr2048
  /-- CONVERT_D2_OSR4096 (R86) -/
  | convertD2Osr4096
  /-- ADC_READ (R87) -/
  | adcRead
  /-- PROM_READ i, with the word index `i`, u3 (R65) -/
  | promRead (i : U3)
  deriving DecidableEq, Repr

/-- One micro-step of the block: a wire command, or one of the five that send nothing (R61). -/
inductive MicroStep where
  /-- a wire command -/
  | command (i : Instr)
  /-- WAIT (R89) -/
  | wait
  /-- BEGIN_CYCLE (R90) -/
  | beginCycle
  /-- LOAD_BEGIN (R64) -/
  | loadBegin
  /-- LOAD_COMMIT (R68) -/
  | loadCommit
  /-- COMPENSATE (R111) -/
  | compensate
  deriving DecidableEq, Repr

/-- The pseudo-instructions of the written syntax (R62). -/
inductive Pseudo where
  /-- `CONVERT D1` or `CONVERT D2`, at the configured OSR -/
  | convert (ch : Channel)
  /-- `SAMPLE D1` or `SAMPLE D2` -/
  | sample (ch : Channel)
  /-- `LOAD_PROM` -/
  | loadProm
  deriving DecidableEq, Repr

/-- The CONVERT instruction of a conversion at an OSR (R76: one semantics, ten opcodes). -/
def Instr.convert : Channel → Osr → Instr
  | .d1, .osr256 => .convertD1Osr256
  | .d1, .osr512 => .convertD1Osr512
  | .d1, .osr1024 => .convertD1Osr1024
  | .d1, .osr2048 => .convertD1Osr2048
  | .d1, .osr4096 => .convertD1Osr4096
  | .d2, .osr256 => .convertD2Osr256
  | .d2, .osr512 => .convertD2Osr512
  | .d2, .osr1024 => .convertD2Osr1024
  | .d2, .osr2048 => .convertD2Osr2048
  | .d2, .osr4096 => .convertD2Osr4096

/-- The mnemonic of an instruction's row in the opcode map (R58). -/
def Instr.mnemonic : Instr → String
  | .reset => "RESET"
  | .convertD1Osr256 => "CONVERT_D1_OSR256"
  | .convertD1Osr512 => "CONVERT_D1_OSR512"
  | .convertD1Osr1024 => "CONVERT_D1_OSR1024"
  | .convertD1Osr2048 => "CONVERT_D1_OSR2048"
  | .convertD1Osr4096 => "CONVERT_D1_OSR4096"
  | .convertD2Osr256 => "CONVERT_D2_OSR256"
  | .convertD2Osr512 => "CONVERT_D2_OSR512"
  | .convertD2Osr1024 => "CONVERT_D2_OSR1024"
  | .convertD2Osr2048 => "CONVERT_D2_OSR2048"
  | .convertD2Osr4096 => "CONVERT_D2_OSR4096"
  | .adcRead => "ADC_READ"
  | .promRead _ => "PROM_READ"

/-- An instruction as the spec writes it in a program (R62). -/
def Instr.written : Instr → String
  | .reset => "RESET"
  | .convertD1Osr256 => "CONVERT D1, OSR256"
  | .convertD1Osr512 => "CONVERT D1, OSR512"
  | .convertD1Osr1024 => "CONVERT D1, OSR1024"
  | .convertD1Osr2048 => "CONVERT D1, OSR2048"
  | .convertD1Osr4096 => "CONVERT D1, OSR4096"
  | .convertD2Osr256 => "CONVERT D2, OSR256"
  | .convertD2Osr512 => "CONVERT D2, OSR512"
  | .convertD2Osr1024 => "CONVERT D2, OSR1024"
  | .convertD2Osr2048 => "CONVERT D2, OSR2048"
  | .convertD2Osr4096 => "CONVERT D2, OSR4096"
  | .adcRead => "ADC_READ"
  | .promRead i => "PROM_READ " ++ toString i.toNat

/-- A micro-step as the spec writes it in a program (R62). -/
def MicroStep.written : MicroStep → String
  | .command i => i.written
  | .wait => "WAIT"
  | .beginCycle => "BEGIN_CYCLE"
  | .loadBegin => "LOAD_BEGIN"
  | .loadCommit => "LOAD_COMMIT"
  | .compensate => "COMPENSATE"

end Sys2Proof
end

