-- ==== Sys2Proof/WellFormed.lean ====
section
/-!
DEFINITION. The checks on what the model is given from outside: the opcode map with its match and mask (30_encoding.md
R58), which bytes are commands (R59), well-formed instructions, and legal constructions (10_state.md R29; 41_sequencer.md
R91, R92).
-/

namespace Sys2Proof

/-- One row of the opcode map (R58): "a byte b is the instruction when b & mask = match". -/
structure OpcodeRow where
  mnemonic : String
  mask : Byte
  pattern : Byte
  responseBytes : Nat
  deriving DecidableEq, Repr

/-- The complete opcode map, in the order of R58. -/
def opcodeMap : List OpcodeRow :=
  [ ⟨"RESET", 0xFF#8, 0x1E#8, 1⟩,
    ⟨"CONVERT_D1_OSR256", 0xFF#8, 0x40#8, 1⟩,
    ⟨"CONVERT_D1_OSR512", 0xFF#8, 0x42#8, 1⟩,
    ⟨"CONVERT_D1_OSR1024", 0xFF#8, 0x44#8, 1⟩,
    ⟨"CONVERT_D1_OSR2048", 0xFF#8, 0x46#8, 1⟩,
    ⟨"CONVERT_D1_OSR4096", 0xFF#8, 0x48#8, 1⟩,
    ⟨"CONVERT_D2_OSR256", 0xFF#8, 0x50#8, 1⟩,
    ⟨"CONVERT_D2_OSR512", 0xFF#8, 0x52#8, 1⟩,
    ⟨"CONVERT_D2_OSR1024", 0xFF#8, 0x54#8, 1⟩,
    ⟨"CONVERT_D2_OSR2048", 0xFF#8, 0x56#8, 1⟩,
    ⟨"CONVERT_D2_OSR4096", 0xFF#8, 0x58#8, 1⟩,
    ⟨"ADC_READ", 0xFF#8, 0x00#8, 4⟩,
    ⟨"PROM_READ", 0xF1#8, 0xA0#8, 3⟩ ]

/-- A byte is the row's instruction when its bits under the mask are the pattern (R58). -/
def OpcodeRow.matchesByte (r : OpcodeRow) (b : Byte) : Bool := b &&& r.mask == r.pattern

/-- The byte is one of the 20 commands; the other 236 are reserved (R59). -/
def isCommandByte (b : Byte) : Bool := opcodeMap.any fun r => r.matchesByte b

/-- The operand of an instruction is in its range: the only operand is the PROM index, "an unsigned value 0..7" (R56).
The type of the field already says so (R57: no command carries anything else), so every instruction is well-formed. -/
def Instr.wellFormed : Instr → Bool
  | .promRead i => i.toNat < 8
  | .reset | .convertD1Osr256 | .convertD1Osr512 | .convertD1Osr1024 | .convertD1Osr2048 | .convertD1Osr4096
  | .convertD2Osr256 | .convertD2Osr512 | .convertD2Osr1024 | .convertD2Osr2048 | .convertD2Osr4096
  | .adcRead => true

/-- T_CONV "grows with OSR" strictly (R91) and T_RESET is positive (R92). -/
def Timing.wellFormed (t : Timing) : Bool :=
  t.tConv256 < t.tConv512 && t.tConv512 < t.tConv1024 && t.tConv1024 < t.tConv2048 && t.tConv2048 < t.tConv4096
    && 0 < t.tReset

/-- A legal configuration of this hardware: legal timing (R91, R92), and STRICT_CRC false (R29, R69). -/
def Configuration.wellFormed (g : Configuration) : Bool := g.timing.wellFormed && !g.strictCrc

/-- An OSR given at construction must be one of 256, 512, 1024, 2048, 4096 (R9, R29, R126). -/
def legalOsr (osr : Nat) : Bool := osr == 256 || osr == 512 || osr == 1024 || osr == 2048 || osr == 4096

end Sys2Proof
end

