-- ==== Sys2Proof/Decode.lean ====
section
/-!
DEFINITION. Decoding a command byte by the three formats of 30_encoding.md (R54 to R57), total on any bytes and refusing by
name, and the encoder beside it, with the response length each command fixes (R60).
-/

namespace Sys2Proof

/-- Why bytes are no instruction. -/
inductive DecodeError where
  /-- one of the 236 reserved bytes (R59): `refuse(IllegalCommand)` -/
  | illegalCommand (b : Byte)
  /-- no byte at all: "Every command is exactly one byte" (R53) -/
  | noByte
  deriving DecidableEq, Repr

/-- The OSR that the field `k` selects, `osr = 256 * 2^k` for k in 0..4; "k = 5, 6, 7 ... are reserved" (R55). -/
def Osr.ofK (k : U3) : Option Osr :=
  if k = 0#3 then some .osr256
  else if k = 1#3 then some .osr512
  else if k = 2#3 then some .osr1024
  else if k = 3#3 then some .osr2048
  else if k = 4#3 then some .osr4096
  else none

/-- The field `k` of an OSR (R29, R55). -/
def Osr.k : Osr → U3
  | .osr256 => 0#3
  | .osr512 => 1#3
  | .osr1024 => 2#3
  | .osr2048 => 3#3
  | .osr4096 => 4#3

/-- The oversampling rate itself, `256 * 2^k` (R29, R55). -/
def Osr.rate (o : Osr) : Nat := 256 * 2 ^ o.k.toNat

/-- The field `ch`: 0 selects D1 (pressure), 1 selects D2 (temperature) (R55). -/
def Channel.ofCh (ch : BitVec 1) : Channel := if ch = 0#1 then .d1 else .d2

/-- The bit `ch` of a conversion (R55). -/
def Channel.ch : Channel → BitVec 1
  | .d1 => 0#1
  | .d2 => 1#1

/-- Decodes one byte: format F-FIX by its two values, F-CONV and F-PROM by their fields (R54, R55, R56). -/
def decodeByte (b : Byte) : Except DecodeError Instr :=
  if b = 0x1E#8 then .ok .reset
  else if b = 0x00#8 then .ok .adcRead
  else if b.extractLsb 7 5 = 0b010#3 ∧ b.extractLsb 0 0 = 0#1 then
    match Osr.ofK (b.extractLsb 3 1) with
    | some o => .ok (Instr.convert (Channel.ofCh (b.extractLsb 4 4)) o)
    | none => .error (.illegalCommand b)
  else if b.extractLsb 7 4 = 0b1010#4 ∧ b.extractLsb 0 0 = 0#1 then .ok (.promRead (b.extractLsb 3 1))
  else .error (.illegalCommand b)

/-- Decodes the first command of a sequence of bytes and returns what follows it (R53: one byte each). -/
def decode : List Byte → Except DecodeError (Instr × List Byte)
  | [] => .error .noByte
  | b :: rest =>
    match decodeByte b with
    | .ok i => .ok (i, rest)
    | .error e => .error e

/-- The opcode of a CONVERT: `0x40 | (ch << 4) | (k << 1)` (R55, R76). -/
def convertOpcode (c : Channel) (o : Osr) : Byte :=
  0x40#8 ||| (c.ch.setWidth 8 <<< 4) ||| (o.k.setWidth 8 <<< 1)

/-- The opcode of a PROM_READ: `0xA0 | (i << 1)` (R56, R65). -/
def promReadOpcode (i : U3) : Byte := 0xA0#8 ||| (i.setWidth 8 <<< 1)

/-- The opcode byte of an instruction (R55, R56, R58). -/
def Instr.opcode : Instr → Byte
  | .reset => 0x1E#8
  | .convertD1Osr256 => convertOpcode .d1 .osr256
  | .convertD1Osr512 => convertOpcode .d1 .osr512
  | .convertD1Osr1024 => convertOpcode .d1 .osr1024
  | .convertD1Osr2048 => convertOpcode .d1 .osr2048
  | .convertD1Osr4096 => convertOpcode .d1 .osr4096
  | .convertD2Osr256 => convertOpcode .d2 .osr256
  | .convertD2Osr512 => convertOpcode .d2 .osr512
  | .convertD2Osr1024 => convertOpcode .d2 .osr1024
  | .convertD2Osr2048 => convertOpcode .d2 .osr2048
  | .convertD2Osr4096 => convertOpcode .d2 .osr4096
  | .adcRead => 0x00#8
  | .promRead i => promReadOpcode i

/-- The bytes the block sends for an instruction, `tx = [opcode]` (R53). -/
def encode (i : Instr) : List Byte := [i.opcode]

/-- The response length n, "fixed by the command: 4 bytes for ADC_READ, 3 for PROM_READ, 1 for RESET and CONVERT" (R60). -/
def Instr.responseLength : Instr → Nat
  | .adcRead => 4
  | .promRead _ => 3
  | .reset | .convertD1Osr256 | .convertD1Osr512 | .convertD1Osr1024 | .convertD1Osr2048 | .convertD1Osr4096
  | .convertD2Osr256 | .convertD2Osr512 | .convertD2Osr1024 | .convertD2Osr2048 | .convertD2Osr4096 => 1

/-- The one byte of an instruction whose table bits are the low `nbits` of `w`; bits above `nbits` are 0. -/
def tableByte (nbits w : Nat) : Byte := BitVec.ofNat 8 (w % 2 ^ nbits)

/-- The instruction the decoder reads from an instruction whose bits, as spec/opcode_table.json numbers them, are `w`. -/
def decodeTableWord (nbits w : Nat) : Option Instr :=
  match decode [tableByte nbits w] with
  | .ok (i, _) => some i
  | .error _ => none

end Sys2Proof
end

