-- ==== Sys2Proof/Machine/State.lean ====
section
/-!
DEFINITION. The state of the machine as plain data: every register of the block (10_state.md R15), its configuration (R29),
the sensor behind the bus (R30, R31), the time source (60_exceptions.md R135), and the inputs and observations of the
agents around the block (00_scope.md R6). With it the state at power-on (R32, R141), and the reasons a step can stop.
-/

namespace Sys2Proof.Machine

/-- The control state of the ConversionSequencer (R24). -/
inductive Ctl where
  /-- "the block does not know the sensor's state (power-on, or a transfer failed); only RESET is valid" -/
  | needsReset
  /-- "no conversion pending; the next cycle may start" -/
  | idle
  /-- "a D1 conversion was commanded" -/
  | pressureConverting
  /-- "a D2 conversion was commanded" -/
  | temperatureConverting
  /-- "both raw samples available" -/
  | done
  deriving DecidableEq, Repr

/-- The fault kinds that the register FAULT can hold (R125). -/
inductive FaultKind where
  /-- ADC_READ before `Now() >= READY_AT` with a valid CTL (R72, R124) -/
  | prematureRead
  /-- a guard's CTL condition, or a non-ADC time condition, failed (R72, R90, R124) -/
  | sequenceViolation
  deriving DecidableEq, Repr

/-- The error kinds a host operation can return (R124); "the kind is the whole of what the host receives". -/
inductive ErrorKind where
  | transportFailure
  | notCalibrated
  | needsReset
  | noReading
  | crcMismatch
  deriving DecidableEq, Repr

/-- OP of the micro-step pointer: the host operation in progress (R26). -/
inductive OpName where
  | none
  | initialise
  | reset
  | readCycle
  deriving DecidableEq, Repr

/-- The micro-step pointer MPC = (OP, IDX), the block's program counter (R26). -/
structure Mpc where
  op : OpName
  idx : Nat
  deriving DecidableEq, Repr

/-- A compensated reading: TEMP in centidegrees Celsius and P in centi-millibar, s64 values (R27, R109). -/
structure Reading where
  temp : S64
  pressure : S64
  deriving DecidableEq, Repr

/-- The eight cells of `C` or of `STAGE`, each u16 or none (R15). -/
abbrev Cells := Vector (Option U16) 8

/-- The sensor's PROM (R31, R33) as byte cells: the word of index i stands in the bytes 2i (high) and 2i + 1 (low).
DESIGN CHOICE, unsafe in what an unlisted byte reads as: notes/assumptions/7.md. -/
abbrev Memory := List Host.Cell

/-- What an unlisted byte of the PROM reads as. DESIGN CHOICE, unsafe: the spec gives the PROM no contents;
notes/assumptions/7.md. -/
def Memory.unlisted : Byte := 0x00#8

/-- The number of bytes of the PROM: 8 words of 16 bits (R33). -/
def Memory.size : Nat := 16

/-- The canonical form of a memory: addresses strictly rising from `low` on, each below the size, and no entry equal to
what an unlisted address reads as. -/
def Memory.wfFrom : Nat → Memory → Bool
  | _, [] => true
  | low, (a, v) :: rest => decide (low ≤ a) && decide (a < Memory.size) && v != Memory.unlisted && wfFrom (a + 1) rest

/-- The memory is in its canonical form, so that equal memories are equal data. -/
def Memory.wf (m : Memory) : Bool := m.wfFrom 0

/-- The sensor's hidden activity (R30): "which conversion, if any, is pending (D1 or D2, with its OSR and the time it was
commanded); whether a reset is settling". -/
inductive Activity where
  /-- not known: power-on (U10) or a failed transfer (U9) -/
  | unknown
  /-- no conversion pending and no reset commanded since the last command -/
  | quiet
  /-- a reset was commanded at time `since` -/
  | settling (since : Nat)
  /-- a conversion was commanded at time `since` and its result is unread -/
  | converting (ch : Channel) (osr : Osr) (since : Nat)
  deriving DecidableEq, Repr

/-- What another host thread may call at any micro-step boundary (R48, R112). -/
inductive Readout where
  | lastTemperature
  | lastPressure
  deriving DecidableEq, Repr

/-- The six calls of the host interface (R113). -/
inductive HostCall where
  | initialise
  | reset
  | readCycle
  | compensate (d1 d2 : U24)
  | read (r : Readout)
  deriving DecidableEq, Repr

/-- Who receives a result: the host operation that returns it, or a single command sent on its own (R59, R113). -/
inductive Caller where
  | initialise
  | reset
  | readCycle
  | compensate
  | lastTemperature
  | lastPressure
  | command
  deriving DecidableEq, Repr

/-- The result of a host operation (R113). -/
inductive Result where
  /-- Ok of initialize, reset, readCycle -/
  | ok
  /-- Ok(TEMP, P) of compensate (R117) -/
  | okReading (r : Reading)
  /-- Ok(TEMP, TEMP_C) of lastTemperature (R118) -/
  | okTemperature (temp : S64) (celsius : FloatBits)
  /-- Ok(P, P_MBAR) of lastPressure (R119) -/
  | okPressure (pressure : S64) (millibar : FloatBits)
  /-- Err(k) (R127) -/
  | err (k : ErrorKind)
  deriving DecidableEq, Repr

/-- One result that reached the host. -/
structure Returned where
  caller : Caller
  result : Result
  deriving DecidableEq, Repr

/-- Which agent moves next, and what it does (R6). DESIGN CHOICE, safe: notes/assumptions/1.md. -/
inductive Event where
  /-- the time source advances by d (R135) -/
  | tick (d : Nat)
  /-- the block takes its turn: its next micro-step, or the start of the host's next call (R71) -/
  | run
  /-- a concurrent host reader reads LAST (R48, R112) -/
  | reader (r : Readout)
  /-- a single command byte is sent outside the fixed sequences (R59; 95_test_vectors.md 2.4) -/
  | command (b : Byte)
  deriving DecidableEq, Repr

/-- The state. The first ten fields are the block's registers, exactly those of R15. -/
structure State where
  /-- `C[0..7]` (R17) -/
  cal : Cells
  /-- `CAL_VALID` (R21) -/
  calValid : Bool
  /-- `STAGE[0..7]` (R20) -/
  stage : Cells
  /-- `D1` (R23) -/
  d1 : Option U24
  /-- `D2` (R23) -/
  d2 : Option U24
  /-- `CTL` (R24) -/
  ctl : Ctl
  /-- `READY_AT` (R25) -/
  readyAt : Nat
  /-- `LAST` (R27) -/
  last : Option Reading
  /-- `FAULT` (R28) -/
  fault : Option FaultKind
  /-- `MPC` (R26) -/
  mpc : Mpc
  /-- the configuration (R29), with the timing parameters (R91, R92) -/
  config : Configuration
  /-- the sensor's PROM (R31) -/
  prom : Memory
  /-- the sensor's hidden activity (R30) -/
  activity : Activity
  /-- `Now()`, the time source's reading (R135) -/
  now : Nat
  /-- the events still to come -/
  schedule : List Event
  /-- the calls the host has still to make, in order (R112) -/
  calls : List HostCall
  /-- the answers the bus has ready for the next transfers (R136) -/
  bus : List BusAnswer
  /-- the counter to which free values are applied: the model's own field, notes/assumptions/5.md -/
  draws : Nat
  /-- the bus log: every byte sent, oldest first (R35, R47) -/
  sent : List Byte
  /-- the results returned to the host, oldest first (R113, R127) -/
  returned : List Returned
  deriving DecidableEq, Repr

/-- Why a step stops the machine. -/
inductive Fault where
  /-- The block is stopped for good by the recorded fault kind: "a block with FAULT ≠ none takes no further step" (R28,
  R128). Raised by every step and every command of such a state. Safe: the spec's own stop. -/
  | stopped (k : FaultKind)
  /-- A register that holds `none` was read where the spec says it is never read so (R13): by LOAD_COMMIT (R68), by
  COMPENSATE (R111) or by compensate (R117). Safe: the model stops where the spec gives no value; unreachable from
  power-on by the fixed sequences. -/
  | noValue
  /-- MPC points past the end of its operation's sequence (R26: it never does). Raised by the micro-step engine. Safe: the
  model stops; unreachable from power-on. -/
  | noMicroStep
  deriving DecidableEq, Repr

/-- Why the model gives an input no meaning (R126). -/
inductive Refusal where
  /-- An instruction without a meaning yet; its mnemonic. Raised by an arm of `exec` only. Safe. No arm uses it. -/
  | notModelled (mnemonic : String)
  /-- `refuse(IllegalCommand)`: a request to send one of the 236 reserved bytes (R59, R126). Raised by the step that finds
  such a byte. Safe: the spec's own refusal. -/
  | illegalCommand (b : Byte)
  /-- `refuse(BadConfiguration)`: a construction with an OSR outside the five (R29, R126). Raised by `construct`. Safe: the
  spec's own refusal. -/
  | badConfiguration
  deriving DecidableEq, Repr

/-- The timing parameters at construction: strictly increasing and positive whatever the opaque constants are (R91, R92).
DESIGN CHOICE, safe: notes/assumptions/8.md. -/
def State.resetTiming : Timing where
  tConv256 := Config.tConv256
  tConv512 := Config.tConv256 + (Config.tConvGap 0 + 1)
  tConv1024 := Config.tConv256 + (Config.tConvGap 0 + 1) + (Config.tConvGap 1 + 1)
  tConv2048 := Config.tConv256 + (Config.tConvGap 0 + 1) + (Config.tConvGap 1 + 1) + (Config.tConvGap 2 + 1)
  tConv4096 := Config.tConv256 + (Config.tConvGap 0 + 1) + (Config.tConvGap 1 + 1) + (Config.tConvGap 2 + 1)
    + (Config.tConvGap 3 + 1)
  tReset := Config.tResetPred + 1

/-- The configuration at construction (R29): construction arguments, and STRICT_CRC false "in this hardware".
DESIGN CHOICE, safe: notes/assumptions/9.md. -/
def State.resetConfiguration : Configuration where
  osrD1 := Config.osrD1
  osrD2 := Config.osrD2
  busAddr := Config.busAddr
  csVariant := Config.csVariant
  strictCrc := false
  timing := State.resetTiming

/-- The state at power-on of a block built with the configuration `g`, beside a sensor with the PROM `m`, at time `t`
(R32, R141). Nothing is scripted, called, answered, sent or returned yet. -/
def State.powerOn (g : Configuration) (m : Memory) (t : Nat) : State where
  cal := Vector.replicate 8 none
  calValid := false
  stage := Vector.replicate 8 none
  d1 := none
  d2 := none
  ctl := .needsReset
  readyAt := 0
  last := none
  fault := none
  mpc := ⟨.none, 0⟩
  config := g
  prom := m
  activity := .unknown
  now := t
  schedule := []
  calls := []
  bus := []
  draws := 0
  sent := []
  returned := []

/-- The machine right after power-on (R32, R141): any configuration, any time. The PROM lists nothing. -/
def State.reset : State := State.powerOn State.resetConfiguration [] Config.nowAtPowerOn

end Sys2Proof.Machine
end

