-- ==== Sys2Proof/Machine/Operands.lean ====
section
/-!
DEFINITION. The operand forms: which bytes of a response a command uses and how they are assembled (20_memory.md R35 to R39),
the sensor's PROM word behind an index (R31, R33), the destination of an ADC_READ (41_sequencer.md R87), the coefficients of
the compensation (42_compensation.md R97), and the parameters an OSR selects (R91).
-/

namespace Sys2Proof.Machine

/-- `be16(b1, b2) = b1 ‖ b2` (R14). -/
def be16 (b1 b2 : Byte) : U16 := b1 ++ b2

/-- `be24(b1, b2, b3) = b1 ‖ b2 ‖ b3` (R14). -/
def be24 (b1 b2 b3 : Byte) : U24 := b1 ++ b2 ++ b3

/-- Byte k of a response; the responses a command reads have their full length (R36). -/
def responseByte (rx : List Byte) (k : Nat) : Byte := rx.getD k 0#8

/-- The calibration word of a PROM_READ response: `be16(rx[1], rx[2])`; rx[0] is ignored (R38, R65). -/
def promWordOf (rx : List Byte) : U16 := be16 (responseByte rx 1) (responseByte rx 2)

/-- The raw sample of an ADC_READ response: `be24(rx[1], rx[2], rx[3])`; rx[0] is ignored (R39, R87). -/
def sampleOf (rx : List Byte) : U24 := be24 (responseByte rx 1) (responseByte rx 2) (responseByte rx 3)

/-- The byte of the PROM at a byte address. -/
def Memory.read (m : Memory) (a : Nat) : Byte :=
  match m with
  | [] => Memory.unlisted
  | (b, v) :: rest => if b = a then v else Memory.read rest a

/-- `SENSOR_PROM[i]`: the PROM word of index i, its high byte first (R31, R33, R38). -/
def Memory.word (m : Memory) (i : U3) : U16 := be16 (m.read (2 * i.toNat)) (m.read (2 * i.toNat + 1))

/-- Which sample an ADC_READ fills, decided by CTL and by which sample is still none (R72, R87); none where no result is
pending. -/
def State.adcDestination (s : State) : Option Channel :=
  if s.ctl = .pressureConverting ∧ s.d1 = none then some .d1
  else if s.ctl = .temperatureConverting ∧ s.d2 = none then some .d2
  else none

/-- The six inputs C[1..6] of the compensation; `C[0]` and `C[7]` are not inputs (R97). -/
structure Coefficients where
  c1 : U16
  c2 : U16
  c3 : U16
  c4 : U16
  c5 : U16
  c6 : U16
  deriving DecidableEq, Repr

/-- The coefficients held in the calibration registers, if every one of C[1..6] holds a word (R13, R17). -/
def coefficients (cells : Cells) : Option Coefficients :=
  match cells[1], cells[2], cells[3], cells[4], cells[5], cells[6] with
  | some c1, some c2, some c3, some c4, some c5, some c6 => some ⟨c1, c2, c3, c4, c5, c6⟩
  | _, _, _, _, _, _ => none

/-- The eight words of a cell file, if every cell holds one (R68: "every STAGE[i] != none"). -/
def allWords (cells : Cells) : Option (Vector U16 8) :=
  match cells[0], cells[1], cells[2], cells[3], cells[4], cells[5], cells[6], cells[7] with
  | some w0, some w1, some w2, some w3, some w4, some w5, some w6, some w7 => some #v[w0, w1, w2, w3, w4, w5, w6, w7]
  | _, _, _, _, _, _, _, _ => none

/-- `T_CONV(osr)` (R91). -/
def tConv (t : Timing) : Osr → Nat
  | .osr256 => t.tConv256
  | .osr512 => t.tConv512
  | .osr1024 => t.tConv1024
  | .osr2048 => t.tConv2048
  | .osr4096 => t.tConv4096

/-- The configured OSR of a conversion: OSR_D1 or OSR_D2 (R29, R116). -/
def configuredOsr (g : Configuration) : Channel → Osr
  | .d1 => g.osrD1
  | .d2 => g.osrD2

end Sys2Proof.Machine
end

