-- ==== Sys2Proof/Machine/Flags.lean ====
section
/-!
DEFINITION. The block's conditions. It has no arithmetic flags (10_state.md R22); what its commands test are the guards of
41_sequencer.md R72, and its one flag is CAL_VALID (R21), which LOAD_BEGIN clears and LOAD_COMMIT sets. With them the codes of
the outcomes (60_exceptions.md R124).
-/

namespace Sys2Proof.Machine

/-- The time condition of every guard, `Now() >= READY_AT` (R72). -/
def State.timeReached (s : State) : Bool := s.readyAt ≤ s.now

/-- A guard whose two conditions raise the kinds `onCtl` and `onTime`: "When both conditions fail, the CTL fault is raised"
(R72, R131). -/
def guardOf (ctlHolds timeHolds : Bool) (onTime : FaultKind) : Option FaultKind :=
  if ctlHolds then (if timeHolds then none else some onTime) else some .sequenceViolation

/-- RESET has no guard: "callable from any state" (R72, R75). -/
def guardReset : Option FaultKind := none

/-- CONVERT_D1: `CTL = Idle` (R72). -/
def guardConvertD1 (s : State) : Option FaultKind := guardOf (s.ctl = .idle) s.timeReached .sequenceViolation

/-- CONVERT_D2: `CTL = PressureConverting` and `D1 != none` (R72). -/
def guardConvertD2 (s : State) : Option FaultKind :=
  guardOf (s.ctl = .pressureConverting ∧ s.d1 ≠ none) s.timeReached .sequenceViolation

/-- ADC_READ: a result is pending; too early is the other fault, PrematureRead (R72). -/
def guardAdcRead (s : State) : Option FaultKind := guardOf s.adcDestination.isSome s.timeReached .prematureRead

/-- PROM_READ: `CTL = Idle` (R72). -/
def guardPromRead (s : State) : Option FaultKind := guardOf (s.ctl = .idle) s.timeReached .sequenceViolation

/-- The code of an error result (R124). -/
def ErrorKind.code : ErrorKind → Nat
  | .transportFailure => 1
  | .notCalibrated => 2
  | .needsReset => 5
  | .noReading => 6
  | .crcMismatch => 7

/-- The code of a fault (R124, R125). -/
def FaultKind.code : FaultKind → Nat
  | .prematureRead => 3
  | .sequenceViolation => 4

end Sys2Proof.Machine
end

