-- ==== Sys2Proof/Machine/Ops.lean ====
section
/-!
DEFINITION. The named operations over the state that every meaning shares: the PROM's memory, one bus transfer with the
sensor's reaction (20_memory.md R34 to R37; 60_exceptions.md R136), returning an error and raising a fault (R127, R128, R129),
and the frame common to every command: recorded fault, guard, transfer, writes (41_sequencer.md R71, R72; R131).
-/

namespace Sys2Proof.Machine

/-- Places a byte, keeping the canonical form; an address outside the PROM does not exist and is left alone. No command
does this (R33, R46: read-only): it is how the factory programs a PROM (R31). -/
def Memory.write : Memory → Nat → Byte → Memory
  | [], a, v => if a < Memory.size ∧ v ≠ Memory.unlisted then [(a, v)] else []
  | (b, w) :: rest, a, v =>
    if a < b then (if a < Memory.size ∧ v ≠ Memory.unlisted then (a, v) :: (b, w) :: rest else (b, w) :: rest)
    else if a = b then (if v ≠ Memory.unlisted then (a, v) :: rest else rest)
    else (b, w) :: Memory.write rest a v

/-- Places a word at a PROM index, high byte first (R38). -/
def Memory.writeWord (m : Memory) (i : Nat) (w : U16) : Memory :=
  (m.write (2 * i) (w.extractLsb 15 8)).write (2 * i + 1) (w.extractLsb 7 0)

/-- The PROM that holds the eight words given (R31). -/
def Memory.ofWords (w : Vector U16 8) : Memory :=
  ((((((((Memory.writeWord [] 0 w[0]).writeWord 1 w[1]).writeWord 2 w[2]).writeWord 3 w[3]).writeWord 4 w[4]).writeWord 5
    w[5]).writeWord 6 w[6]).writeWord 7 w[7])

/-- What the bus answers to the next transfer: the next answer it has ready, else a free draw (R136, U4, U5, U7, U8). -/
def State.nextAnswer (s : State) : BusAnswer :=
  match s.bus with
  | a :: _ => a
  | [] => Config.freeAnswer s.draws

/-- The bytes after byte 0 of the sensor's answer (R136): the PROM word big-endian, the measurement big-endian, or
nothing. -/
def answerPayload (i : Instr) (sample : U24) (m : Memory) : List Byte :=
  match i with
  | .adcRead => [sample.extractLsb 23 16, sample.extractLsb 15 8, sample.extractLsb 7 0]
  | .promRead k => [(m.word k).extractLsb 15 8, (m.word k).extractLsb 7 0]
  | .reset | .convertD1Osr256 | .convertD1Osr512 | .convertD1Osr1024 | .convertD1Osr2048 | .convertD1Osr4096
  | .convertD2Osr256 | .convertD2Osr512 | .convertD2Osr1024 | .convertD2Osr2048 | .convertD2Osr4096 => []

/-- What the transport returns for a command: failure, or a sequence of bytes (R34, R136). -/
def transportReturns (a : BusAnswer) (i : Instr) (m : Memory) : Option (List Byte) :=
  match a with
  | .fail => none
  | .wrongLength rx => some (if rx.length = i.responseLength then [] else rx)
  | .answer echo sample => some (echo :: answerPayload i sample m)

/-- "A returned rx whose length is not n counts as `fail`" (R14, R36). -/
def received (n : Nat) : Option (List Byte) → Option (List Byte)
  | some rx => if rx.length = n then some rx else none
  | none => none

/-- The response of the next transfer for a command, or none where it fails (R36). -/
def State.response (i : Instr) (s : State) : Option (List Byte) :=
  received i.responseLength (transportReturns s.nextAnswer i s.prom)

/-- The sensor's activity after it took a command at time t (R30, R44): RESET drops what is pending and settles, CONVERT
starts a conversion, ADC_READ ends the pending one, PROM_READ has no side effect. -/
def activityAfter (i : Instr) (t : Nat) (a : Activity) : Activity :=
  match i with
  | .reset => .settling t
  | .convertD1Osr256 => .converting .d1 .osr256 t
  | .convertD1Osr512 => .converting .d1 .osr512 t
  | .convertD1Osr1024 => .converting .d1 .osr1024 t
  | .convertD1Osr2048 => .converting .d1 .osr2048 t
  | .convertD1Osr4096 => .converting .d1 .osr4096 t
  | .convertD2Osr256 => .converting .d2 .osr256 t
  | .convertD2Osr512 => .converting .d2 .osr512 t
  | .convertD2Osr1024 => .converting .d2 .osr1024 t
  | .convertD2Osr2048 => .converting .d2 .osr2048 t
  | .convertD2Osr4096 => .converting .d2 .osr4096 t
  | .adcRead => .quiet
  | .promRead _ => a

/-- The state once the command's byte is on the bus and its answer is drawn (R35, R47): the sensor's activity is then
`a`. -/
def State.transferred (i : Instr) (a : Activity) (s : State) : State :=
  { s with sent := s.sent ++ encode i, bus := s.bus.tail, draws := s.draws + 1, activity := a }

/-- The host operation that receives the results of the operation in progress. -/
def OpName.caller : OpName → Caller
  | .none => .command
  | .initialise => .initialise
  | .reset => .reset
  | .readCycle => .readCycle

/-- A result reaches the host (R113, R127). -/
def State.giveBack (w : Caller) (r : Result) (s : State) : State :=
  { s with returned := s.returned ++ [⟨w, r⟩] }

/-- `return Err(k)`: the operation ends at once with Err(k); `MPC <- (None, 0)` (R127). -/
def State.returnErr (k : ErrorKind) (s : State) : State :=
  { s with mpc := ⟨.none, 0⟩, returned := s.returned ++ [⟨s.mpc.op.caller, .err k⟩] }

/-- `raise Fault(k)`: `FAULT <- k` (R128). Everything else, MPC included, stays as it is: the operation in progress never
returns. -/
def State.raise (k : FaultKind) (s : State) : State := { s with fault := some k }

/-- The TransportFailure effects (R129): `CTL <- NeedsReset`, `MPC <- (None, 0)`, Err(TransportFailure). -/
def State.transportFailure (s : State) : State := ({ s with ctl := .needsReset } : State).returnErr .transportFailure

/-- One command micro-step, "one atomic step: its guard check, its single `Transfer`, and its state writes happen at one
value of `Now()`" (R71), in the order of R131: a recorded fault, the guard, the transfer. `writes` are the command's state
writes from the response. After a failed transfer the sensor may or may not have taken the command (R129). -/
def command (i : Instr) (guard : Option FaultKind) (writes : List Byte → State → State) (s : State) :
    Host.Outcome State Fault Refusal :=
  match s.fault with
  | some k => .fault (.stopped k)
  | none =>
    match guard with
    | some k => .next (s.raise k)
    | none =>
      .next (match s.response i with
        | none => (s.transferred i .unknown).transportFailure
        | some rx => writes rx (s.transferred i (activityAfter i s.now s.activity)))

/-- Reading the cached result (R118, R119): LAST is read, nothing is written, nothing is sent. -/
def readResult (r : Readout) (last : Option Reading) : Result :=
  match r, last with
  | _, none => .err .noReading
  | .lastTemperature, some v => .okTemperature v.temp (Config.toFloat v.temp.toInt 100)
  | .lastPressure, some v => .okPressure v.pressure (Config.toFloat v.pressure.toInt 100)

/-- The caller of a readout. -/
def Readout.caller : Readout → Caller
  | .lastTemperature => .lastTemperature
  | .lastPressure => .lastPressure

/-- lastTemperature or lastPressure runs and returns its result (R118, R119). -/
def State.readOut (r : Readout) (s : State) : State := s.giveBack r.caller (readResult r s.last)

/-- The time source advances (R135). -/
def State.elapse (d : Nat) (s : State) : State := { s with now := s.now + d }

/-- An OSR given at construction by its rate (R9, R29); none where it is not one of the five. -/
def Osr.ofRate (osr : Nat) : Option Osr :=
  if osr = 256 then some .osr256
  else if osr = 512 then some .osr512
  else if osr = 1024 then some .osr1024
  else if osr = 2048 then some .osr2048
  else if osr = 4096 then some .osr4096
  else none

/-- Constructing the block from its arguments (R9, R143) beside a sensor with the PROM words given, at time t: an OSR outside
the five is refused with `refuse(BadConfiguration)` (R29, R126). STRICT_CRC is false in this hardware (R29). -/
def construct (osrD1 osrD2 busAddr : Nat) (cs : CsVariant) (timing : Timing) (prom : Vector U16 8) (t : Nat) :
    Host.Outcome State Fault Refusal :=
  match Osr.ofRate osrD1, Osr.ofRate osrD2 with
  | some o1, some o2 =>
    .next (State.powerOn
      { osrD1 := o1, osrD2 := o2, busAddr := busAddr, csVariant := cs, strictCrc := false, timing := timing }
      (Memory.ofWords prom) t)
  | _, _ => .refused .badConfiguration

end Sys2Proof.Machine
end

