-- ==== Sys2Proof/Machine/Calibration.lean ====
section
/-!
DEFINITION. The CalibrationStore (40_calibration.md): the PROM_READ command and the micro-steps LOAD_BEGIN and LOAD_COMMIT.
-/

namespace Sys2Proof.Machine

/-- `STAGE[i] <- w` (R65). -/
def State.setStage (i : U3) (w : U16) (s : State) : State :=
  { s with stage := s.stage.set i.toNat (some w) (by omega) }

/-- PROM_READ i: read PROM word i into the staging buffer (R65). -/
def execPromRead (i : U3) (s : State) : Host.Outcome State Fault Refusal :=
  command (.promRead i) (guardPromRead s) (fun rx t => t.setStage i (promWordOf rx)) s

/-- LOAD_BEGIN: every `C[i]` and `STAGE[i]` becomes none, and CAL_VALID false (R64). -/
def State.loadBegin (s : State) : State :=
  { s with cal := Vector.replicate 8 none, stage := Vector.replicate 8 none, calValid := false }

/-- The block accepts the staged words unless the strict mode is on and their CRC check fails (R68, R69). -/
def crcAccepts (g : Configuration) (words : Vector U16 8) : Bool := !g.strictCrc || Config.crcCheck words

/-- LOAD_COMMIT: the staged table becomes the calibration, all eight words in this one step, and CAL_VALID true; in strict
mode a failed CRC check returns Err(CrcMismatch) instead (R68). It is "reached only after PROM_READ 0..7 all succeeded";
where a staged cell holds none the model stops (R13). -/
def loadCommit (s : State) : Host.Outcome State Fault Refusal :=
  match allWords s.stage with
  | none => .fault .noValue
  | some words =>
    if crcAccepts s.config words then .next { s with cal := s.stage, calValid := true }
    else .next (s.returnErr .crcMismatch)

end Sys2Proof.Machine
end

