-- ==== Sys2Proof/Machine/Compensation.lean ====
section
/-!
DEFINITION. The CompensationEngine (42_compensation.md): the s64 datapath the block computes with (R96, R97, R98), the micro-step
COMPENSATE (R111), and beside them the same formulas over the integers, in the notation of 00_scope.md R12, which the datapath
is claimed to equal.
-/

namespace Sys2Proof.Machine

/-- `zext_64` of a sample or a coefficient (R11, R97). -/
def zext64 {n : Nat} (v : BitVec n) : S64 := v.setWidth 64

/-- A scale factor, "the factor is `1 << k`, an exact integer" (R105). -/
def scale (k : Nat) : S64 := 1#64 <<< k

/-- `tdiv(a, 2^k)` on s64: signed division truncating toward zero (R12, R107). -/
def tdiv64 (a : S64) (k : Nat) : S64 := a.sdiv (scale k)

/-- `dT = D2 - C[5] * 256` (R99). -/
def dT64 (k : Coefficients) (d2 : U24) : S64 := zext64 d2 - zext64 k.c5 * scale 8

/-- `OFF = C[2] * 2^17 + tdiv(C[4] * dT, 2^6)` (R100). -/
def off64 (k : Coefficients) (dT : S64) : S64 := zext64 k.c2 * scale 17 + tdiv64 (zext64 k.c4 * dT) 6

/-- `SENS = C[1] * 2^16 + tdiv(C[3] * dT, 2^7)` (R101). -/
def sens64 (k : Coefficients) (dT : S64) : S64 := zext64 k.c1 * scale 16 + tdiv64 (zext64 k.c3 * dT) 7

/-- `TEMP = 2000 + tdiv(dT * C[6], 2^23)` (R102). -/
def temp64 (k : Coefficients) (dT : S64) : S64 := 2000#64 + tdiv64 (dT * zext64 k.c6) 23

/-- `X = tdiv(D1 * SENS, 2^21)` (R98). -/
def x64 (d1 : U24) (sens : S64) : S64 := tdiv64 (zext64 d1 * sens) 21

/-- `P = tdiv(X - OFF, 2^15)` (R103). -/
def p64 (x off : S64) : S64 := tdiv64 (x - off) 15

/-- `COMP(C, D1, D2)`: every product before the division that follows it, each division on its own (R98, R104). -/
def comp (k : Coefficients) (d1 d2 : U24) : Reading :=
  let dT := dT64 k d2
  { temp := temp64 k dT, pressure := p64 (x64 d1 (sens64 k dT)) (off64 k dT) }

/-- `tdiv(a, d)` on integers, "truncating toward zero" (R12). -/
def tdiv (a d : Int) : Int := Int.tdiv a d

/-- dT over the integers (R99). -/
def dTExact (k : Coefficients) (d2 : U24) : Int := (d2.toNat : Int) - k.c5.toNat * 256

/-- OFF over the integers (R100). -/
def offExact (k : Coefficients) (d2 : U24) : Int := k.c2.toNat * 2 ^ 17 + tdiv (k.c4.toNat * dTExact k d2) (2 ^ 6)

/-- SENS over the integers (R101). -/
def sensExact (k : Coefficients) (d2 : U24) : Int := k.c1.toNat * 2 ^ 16 + tdiv (k.c3.toNat * dTExact k d2) (2 ^ 7)

/-- TEMP over the integers (R102). -/
def tempExact (k : Coefficients) (d2 : U24) : Int := 2000 + tdiv (dTExact k d2 * k.c6.toNat) (2 ^ 23)

/-- X over the integers (R98). -/
def xExact (k : Coefficients) (d1 d2 : U24) : Int := tdiv (d1.toNat * sensExact k d2) (2 ^ 21)

/-- P over the integers (R103). -/
def pExact (k : Coefficients) (d1 d2 : U24) : Int := tdiv (xExact k d1 d2 - offExact k d2) (2 ^ 15)

/-- COMPENSATE: `LAST <- COMP(C, D1, D2)`, both fields in this one step; CTL stays Done (R111). It is reached only with both
samples and the calibration held; where one of them is none the model stops (R13). -/
def compensateStep (s : State) : Host.Outcome State Fault Refusal :=
  match coefficients s.cal, s.d1, s.d2 with
  | some k, some d1, some d2 => .next { s with last := some (comp k d1 d2) }
  | _, _, _ => .fault .noValue

end Sys2Proof.Machine
end

