-- ==== Sys2Proof/Machine/Sequencer.lean ====
section
/-!
DEFINITION. The ConversionSequencer (41_sequencer.md): the commands RESET, CONVERT and ADC_READ, and the micro-step BEGIN_CYCLE.
-/

namespace Sys2Proof.Machine

/-- RESET's writes: `CTL <- Idle`, `READY_AT <- Now() + T_RESET` (R75). -/
def State.resetDone (s : State) : State := { s with ctl := .idle, readyAt := s.now + s.config.timing.tReset }

/-- RESET: reset the sensor and start its settling delay (R75). -/
def execReset (s : State) : Host.Outcome State Fault Refusal :=
  command .reset guardReset (fun _ t => t.resetDone) s

/-- CONVERT's writes: `CTL <- (ch = 0 ? PressureConverting : TemperatureConverting)`,
`READY_AT <- Now() + T_CONV(osr)` (R76). -/
def State.convertDone (ch : Channel) (o : Osr) (s : State) : State :=
  { s with
    ctl := (match ch with | .d1 => .pressureConverting | .d2 => .temperatureConverting)
    readyAt := s.now + tConv s.config.timing o }

/-- CONVERT with ch = 0: start a pressure conversion at an OSR (R76). -/
def convertD1 (o : Osr) (s : State) : Host.Outcome State Fault Refusal :=
  command (Instr.convert .d1 o) (guardConvertD1 s) (fun _ t => t.convertDone .d1 o) s

/-- CONVERT with ch = 1: start a temperature conversion at an OSR (R76). -/
def convertD2 (o : Osr) (s : State) : Host.Outcome State Fault Refusal :=
  command (Instr.convert .d2 o) (guardConvertD2 s) (fun _ t => t.convertDone .d2 o) s

/-- CONVERT_D1_OSR256 (R77). -/
def execConvertD1Osr256 (s : State) : Host.Outcome State Fault Refusal := convertD1 .osr256 s

/-- CONVERT_D1_OSR512 (R78). -/
def execConvertD1Osr512 (s : State) : Host.Outcome State Fault Refusal := convertD1 .osr512 s

/-- CONVERT_D1_OSR1024 (R79). -/
def execConvertD1Osr1024 (s : State) : Host.Outcome State Fault Refusal := convertD1 .osr1024 s

/-- CONVERT_D1_OSR2048 (R80). -/
def execConvertD1Osr2048 (s : State) : Host.Outcome State Fault Refusal := convertD1 .osr2048 s

/-- CONVERT_D1_OSR4096 (R81). -/
def execConvertD1Osr4096 (s : State) : Host.Outcome State Fault Refusal := convertD1 .osr4096 s

/-- CONVERT_D2_OSR256 (R82). -/
def execConvertD2Osr256 (s : State) : Host.Outcome State Fault Refusal := convertD2 .osr256 s

/-- CONVERT_D2_OSR512 (R83). -/
def execConvertD2Osr512 (s : State) : Host.Outcome State Fault Refusal := convertD2 .osr512 s

/-- CONVERT_D2_OSR1024 (R84). -/
def execConvertD2Osr1024 (s : State) : Host.Outcome State Fault Refusal := convertD2 .osr1024 s

/-- CONVERT_D2_OSR2048 (R85). -/
def execConvertD2Osr2048 (s : State) : Host.Outcome State Fault Refusal := convertD2 .osr2048 s

/-- CONVERT_D2_OSR4096 (R86). -/
def execConvertD2Osr4096 (s : State) : Host.Outcome State Fault Refusal := convertD2 .osr4096 s

/-- ADC_READ's writes, to the destination it chose before the transfer: `D1 <- raw` with CTL as it is, or `D2 <- raw` and
`CTL <- Done` (R87). -/
def State.storeSample (dst : Option Channel) (raw : U24) (s : State) : State :=
  match dst with
  | some .d1 => { s with d1 := some raw }
  | some .d2 => { s with d2 := some raw, ctl := .done }
  | none => s

/-- ADC_READ: read the result of the pending conversion (R87). -/
def execAdcRead (s : State) : Host.Outcome State Fault Refusal :=
  command .adcRead (guardAdcRead s) (fun rx t => t.storeSample s.adcDestination (sampleOf rx)) s

/-- BEGIN_CYCLE: NotCalibrated before NeedsReset before SequenceViolation (R90, R131); else `CTL <- Idle` and both raw samples
none. -/
def State.beginCycle (s : State) : State :=
  if s.calValid = false then s.returnErr .notCalibrated
  else if s.ctl = .needsReset then s.returnErr .needsReset
  else if s.ctl = .idle ∨ s.ctl = .done then { s with ctl := .idle, d1 := none, d2 := none }
  else s.raise .sequenceViolation

end Sys2Proof.Machine
end

