-- ==== Sys2Proof/Machine/Dispatch.lean ====
section
/-!
DEFINITION. The meaning of every instruction: one arm per constructor, each a direct call of its meaning.
-/

namespace Sys2Proof.Machine

/-- Executes one command micro-step (41_sequencer.md R71). -/
def exec (i : Instr) (s : State) : Host.Outcome State Fault Refusal :=
  match i with
  | .reset => Sys2Proof.Machine.execReset s
  | .convertD1Osr256 => Sys2Proof.Machine.execConvertD1Osr256 s
  | .convertD1Osr512 => Sys2Proof.Machine.execConvertD1Osr512 s
  | .convertD1Osr1024 => Sys2Proof.Machine.execConvertD1Osr1024 s
  | .convertD1Osr2048 => Sys2Proof.Machine.execConvertD1Osr2048 s
  | .convertD1Osr4096 => Sys2Proof.Machine.execConvertD1Osr4096 s
  | .convertD2Osr256 => Sys2Proof.Machine.execConvertD2Osr256 s
  | .convertD2Osr512 => Sys2Proof.Machine.execConvertD2Osr512 s
  | .convertD2Osr1024 => Sys2Proof.Machine.execConvertD2Osr1024 s
  | .convertD2Osr2048 => Sys2Proof.Machine.execConvertD2Osr2048 s
  | .convertD2Osr4096 => Sys2Proof.Machine.execConvertD2Osr4096 s
  | .adcRead => Sys2Proof.Machine.execAdcRead s
  | .promRead k => Sys2Proof.Machine.execPromRead k s

end Sys2Proof.Machine
end

