-- ==== Sys2Proof/Machine/Engine.lean ====
section
/-!
DEFINITION. The micro-step engine (41_sequencer.md R71): the fixed sequence of each host operation (43_host_operations.md R114, R115,
R116), performing the micro-step MPC points at, and advancing MPC (10_state.md R26; R121).
-/

namespace Sys2Proof.Machine

/-- The expansion of a pseudo-instruction (R62). -/
def Pseudo.expand (g : Configuration) : Pseudo → List MicroStep
  | .convert ch => [.command (Instr.convert ch (configuredOsr g ch))]
  | .sample ch => [.command (Instr.convert ch (configuredOsr g ch)), .wait, .command .adcRead]
  | .loadProm =>
    [.loadBegin, .command (.promRead 0#3), .command (.promRead 1#3), .command (.promRead 2#3), .command (.promRead 3#3),
      .command (.promRead 4#3), .command (.promRead 5#3), .command (.promRead 6#3), .command (.promRead 7#3), .loadCommit]

/-- The fixed micro-step sequence of a host operation: initialize (R114), reset (R115), readCycle (R116). -/
def sequence (g : Configuration) : OpName → List MicroStep
  | .none => []
  | .initialise =>
    [.loadBegin, .command .reset, .wait, .command (.promRead 0#3), .command (.promRead 1#3), .command (.promRead 2#3),
      .command (.promRead 3#3), .command (.promRead 4#3), .command (.promRead 5#3), .command (.promRead 6#3),
      .command (.promRead 7#3), .loadCommit]
  | .reset => [.command .reset, .wait]
  | .readCycle =>
    [.beginCycle, .command (Instr.convert .d1 g.osrD1), .wait, .command .adcRead,
      .command (Instr.convert .d2 g.osrD2), .wait, .command .adcRead, .compensate]

/-- A micro-step completed: past the last index the operation returns Ok and `MPC <- (None, 0)`, else `IDX <- IDX + 1`
(R71). -/
def State.advance (s : State) : State :=
  if s.mpc.idx + 1 < (sequence s.config s.mpc.op).length then { s with mpc := ⟨s.mpc.op, s.mpc.idx + 1⟩ }
  else { s with mpc := ⟨.none, 0⟩, returned := s.returned ++ [⟨s.mpc.op.caller, .ok⟩] }

/-- After a micro-step: one that raised a fault or ended the operation with an error leaves MPC as it set it, any other
completed (R71). -/
def State.advanceUnlessEnded (s : State) : State :=
  if s.fault = none ∧ s.mpc.op ≠ .none then s.advance else s

/-- Advances the state of an outcome, if it has one. -/
def advanced : Host.Outcome State Fault Refusal → Host.Outcome State Fault Refusal
  | .next s => .next s.advanceUnlessEnded
  | .fault r => .fault r
  | .refused r => .refused r

/-- WAIT: complete when `Now() >= READY_AT`, else hold: "no state changes; the same micro-step is tried again later"
(R71, R89). -/
def State.waitStep (s : State) : State := if s.timeReached then s.advance else s

/-- Performs a micro-step of the operation in progress (R71). -/
def performMicroStep (m : MicroStep) (s : State) : Host.Outcome State Fault Refusal :=
  match m with
  | .command i => advanced (exec i s)
  | .wait => .next s.waitStep
  | .beginCycle => .next s.beginCycle.advanceUnlessEnded
  | .loadBegin => .next s.loadBegin.advance
  | .loadCommit => advanced (loadCommit s)
  | .compensate => advanced (compensateStep s)

/-- The micro-step MPC points at (R26). -/
def State.currentMicroStep (s : State) : Option MicroStep := (sequence s.config s.mpc.op)[s.mpc.idx]?

end Sys2Proof.Machine
end

