-- ==== Sys2Proof/Machine/HostOps.lean ====
section
/-!
DEFINITION. The host operations (43_host_operations.md R112 to R119), the block's turn, and which event comes next (00_scope.md R6).
-/

namespace Sys2Proof.Machine

/-- A host operation with a micro-step sequence starts: `MPC <- (OP, 0)` (R71). -/
def State.beginOp (op : OpName) (s : State) : State := { s with mpc := ⟨op, 0⟩ }

/-- compensate(d1, d2): Err(NotCalibrated) or Ok(COMP(C, d1, d2)); "no state is written" but the result given back (R117). A
valid calibration holds every coefficient; where one of C[1..6] is none all the same the model stops (R13). -/
def compensateCall (d1 d2 : U24) (s : State) : Host.Outcome State Fault Refusal :=
  if s.calValid = false then .next (s.giveBack .compensate (.err .notCalibrated))
  else
    match coefficients s.cal with
    | some k => .next (s.giveBack .compensate (.okReading (comp k d1 d2)))
    | none => .fault .noValue

/-- The host calls an operation (R113): a sequence starts, a single step runs whole. -/
def startCall (h : HostCall) (s : State) : Host.Outcome State Fault Refusal :=
  match h with
  | .initialise => .next (s.beginOp .initialise)
  | .reset => .next (s.beginOp .reset)
  | .readCycle => .next (s.beginOp .readCycle)
  | .compensate d1 d2 => compensateCall d1 d2 s
  | .read r => .next (s.readOut r)

/-- The block's turn. Between operations it starts the host's next call and otherwise "does nothing until the host calls an
operation" (R112, R141); in an operation it performs the micro-step MPC points at (R71). -/
def blockTurn (s : State) : Host.Outcome State Fault Refusal :=
  if s.mpc.op = .none then
    match s.calls with
    | [] => .next s
    | h :: rest => startCall h { s with calls := rest }
  else
    match s.currentMicroStep with
    | some m => performMicroStep m s
    | none => .fault .noMicroStep

/-- A single command byte is sent outside the fixed sequences: a reserved byte is refused by name, a command runs (R59,
R126). -/
def sendCommand (b : Byte) (s : State) : Host.Outcome State Fault Refusal :=
  match decode [b] with
  | .ok (i, _) => exec i s
  | .error _ => .refused (.illegalCommand b)

/-- The next event and the state without it. With nothing scripted, time passes by a free amount and the block takes its turn:
notes/assumptions/2.md. -/
def State.takeEvent (s : State) : Event × State :=
  match s.schedule with
  | e :: rest => (e, { s with schedule := rest })
  | [] => (.run, { s with now := s.now + Config.freeAdvance s.draws, draws := s.draws + 1 })

/-- What an event does. -/
def handle (e : Event) (s : State) : Host.Outcome State Fault Refusal :=
  match e with
  | .tick d => .next (s.elapse d)
  | .run => blockTurn s
  | .reader r => .next (s.readOut r)
  | .command b => sendCommand b s

end Sys2Proof.Machine
end

