-- ==== Sys2Proof/Machine/Step.lean ====
section
/-!
DEFINITION. One step of the machine: a block with a recorded fault takes no further step (10_state.md R28), else the next event
happens. With it the placing of a single command where the next step fetches it.
-/

namespace Sys2Proof.Machine

/-- One step (R28, R71, R131). -/
def step (s : State) : Host.Outcome State Fault Refusal :=
  match s.fault with
  | some k => .fault (.stopped k)
  | none => handle s.takeEvent.1 s.takeEvent.2

/-- The state in which the next event is to send the instruction given by the opcode table's bits: notes/assumptions/20.md. -/
def State.withFetchWord (s : State) (nbits w : Nat) : State :=
  { s with schedule := .command (tableByte nbits w) :: s.schedule }

end Sys2Proof.Machine
end

