-- ==== Sys2Proof/Safety.lean ====
section
/-!
DEFINITION. What counts as a safe state and a safe run, in the terms the claims use: the guard table of 41_sequencer.md R72 read
as conditions, the states a transfer leaves, where each register must stand at each micro-step of an operation (R73, R74), the
sensor's mirror (10_state.md R30) and the calibration's faithfulness to the PROM (R31, R52).
-/

namespace Sys2Proof.Safety

open Sys2Proof.Machine

/-- The "CTL and sample condition" column of R72. -/
def ctlCondition (i : Instr) (s : State) : Prop :=
  match i with
  | .reset => True
  | .convertD1Osr256 | .convertD1Osr512 | .convertD1Osr1024 | .convertD1Osr2048 | .convertD1Osr4096 => s.ctl = .idle
  | .convertD2Osr256 | .convertD2Osr512 | .convertD2Osr1024 | .convertD2Osr2048 | .convertD2Osr4096 =>
    s.ctl = .pressureConverting ∧ s.d1 ≠ none
  | .adcRead =>
    (s.ctl = .pressureConverting ∧ s.d1 = none) ∨ (s.ctl = .temperatureConverting ∧ s.d2 = none)
  | .promRead _ => s.ctl = .idle

/-- The "time condition" column of R72: every command but RESET waits for `Now() >= READY_AT`. -/
def timeCondition (i : Instr) (s : State) : Prop := i = .reset ∨ s.readyAt ≤ s.now

/-- The column "fault if only the time condition fails" of R72. -/
def lateFault (i : Instr) : FaultKind := if i = .adcRead then .prematureRead else .sequenceViolation

/-- The instruction is one of the ten CONVERT commands. -/
def isConvert (i : Instr) : Prop := ∃ ch o, i = Instr.convert ch o

/-- The state once the byte b was sent and an answer was taken, the sensor's activity being a. -/
def sentState (b : Byte) (a : Activity) (s : State) : State :=
  { s with sent := s.sent ++ [b], bus := s.bus.tail, draws := s.draws + 1, activity := a }

/-- The state after the transfer of the byte b failed (R129): the sensor's activity is then unknown. -/
def failedState (b : Byte) (s : State) : State :=
  { sentState b .unknown s with
    ctl := .needsReset
    mpc := ⟨.none, 0⟩
    returned := s.returned ++ [⟨s.mpc.op.caller, .err .transportFailure⟩] }

/-- No single command is scripted: the block is driven by host operations only, as R73 takes it. -/
def onlyOperations (l : List Event) : Prop := ∀ b, Event.command b ∉ l

/-- Between operations CTL is one of Idle, Done, NeedsReset (R24), and the delay of whatever was commanded is over. -/
def atRest (s : State) : Prop :=
  (s.ctl = .idle ∨ s.ctl = .done ∨ s.ctl = .needsReset) ∧ (s.ctl ≠ .needsReset → s.readyAt ≤ s.now)

/-- Where the registers stand at each micro-step of initialize (R114). From step 1 on no calibration is valid (R21). -/
def inInitialize (s : State) : Prop :=
  s.mpc.idx ≤ 11 ∧ (1 ≤ s.mpc.idx → s.calValid = false) ∧ (s.mpc.idx ≤ 1 → atRest s) ∧ (2 ≤ s.mpc.idx → s.ctl = .idle) ∧
    (3 ≤ s.mpc.idx → s.readyAt ≤ s.now) ∧ ∀ j : Fin 8, j.val + 3 < s.mpc.idx → s.stage[j] ≠ none

/-- Where the registers stand at each micro-step of reset (R115). -/
def inReset (s : State) : Prop :=
  s.mpc.idx ≤ 1 ∧ (s.mpc.idx = 0 → atRest s) ∧ (s.mpc.idx = 1 → s.ctl = .idle)

/-- Where the registers stand at each micro-step of readCycle (R116). -/
def inReadCycle (s : State) : Prop :=
  (s.mpc.idx = 0 ∧ atRest s) ∨
  (s.calValid = true ∧
    ((s.mpc.idx = 1 ∧ s.ctl = .idle ∧ s.readyAt ≤ s.now ∧ s.d1 = none ∧ s.d2 = none) ∨
     (s.mpc.idx = 2 ∧ s.ctl = .pressureConverting ∧ s.d1 = none ∧ s.d2 = none) ∨
     (s.mpc.idx = 3 ∧ s.ctl = .pressureConverting ∧ s.readyAt ≤ s.now ∧ s.d1 = none ∧ s.d2 = none) ∨
     (s.mpc.idx = 4 ∧ s.ctl = .pressureConverting ∧ s.readyAt ≤ s.now ∧ s.d1 ≠ none ∧ s.d2 = none) ∨
     (s.mpc.idx = 5 ∧ s.ctl = .temperatureConverting ∧ s.d1 ≠ none ∧ s.d2 = none) ∨
     (s.mpc.idx = 6 ∧ s.ctl = .temperatureConverting ∧ s.readyAt ≤ s.now ∧ s.d1 ≠ none ∧ s.d2 = none) ∨
     (s.mpc.idx = 7 ∧ s.ctl = .done ∧ s.readyAt ≤ s.now ∧ s.d1 ≠ none ∧ s.d2 ≠ none)))

/-- The registers stand where the operation in progress needs them (R73, R74). -/
def located (s : State) : Prop :=
  match s.mpc.op with
  | .none => atRest s
  | .initialise => inInitialize s
  | .reset => inReset s
  | .readCycle => inReadCycle s

/-- "No partial calibration is accepted" (R18, R20, R67): a valid calibration holds all eight words, and where none is valid every
`C[i]` is none. -/
def calibrationWhole (s : State) : Prop :=
  (s.calValid = true → ∀ j : Fin 8, s.cal[j] ≠ none) ∧ (s.calValid = false → ∀ j : Fin 8, s.cal[j] = none)

/-- A consistent state: no fault is recorded, the registers stand where the operation needs them, and the calibration is whole or
absent. -/
def consistent (s : State) : Prop := s.fault = none ∧ located s ∧ calibrationWhole s

/-- CTL and READY_AT agree with a sensor activity (R30): the pending conversion, if any, is the one whose result is unread, and
READY_AT is when it, or the reset's settling, is complete. -/
def agreesWith (s : State) : Activity → Prop
  | .unknown => False
  | .quiet => s.adcDestination = none
  | .settling since => s.adcDestination = none ∧ s.readyAt = since + s.config.timing.tReset
  | .converting ch o since => s.adcDestination = some ch ∧ s.readyAt = since + tConv s.config.timing o

/-- Unless CTL is NeedsReset, CTL and READY_AT mirror the sensor's hidden state (R30). -/
def mirrored (s : State) : Prop := s.ctl ≠ .needsReset → agreesWith s s.activity

/-- Every word held in `C` or `STAGE` is the sensor's PROM word of its index (R18, R31, R52). -/
def faithful (s : State) : Prop :=
  ∀ (j : Fin 8) (w : U16), (s.cal[j] = some w → w = s.prom.word (BitVec.ofNat 3 j)) ∧
    (s.stage[j] = some w → w = s.prom.word (BitVec.ofNat 3 j))

end Sys2Proof.Safety
end

