-- ==== Sys2Proof/Certificates/Slice0/Obligations.lean ====
section
/-!
DEFINITION. The statements for the provers. Each names the rules of spec/ it formalises; OBLIGATIONS.json lists them.
-/

open Sys2Proof Sys2Proof.Machine Sys2Proof.Safety

/-! ## Encoding -/

/-- The words of 30_encoding.md R58, each written out, decode to their instructions. A sanity statement. -/
def Obligations.OpcodeWordsDecode : Prop :=
  decode [0x1E#8] = .ok (.reset, []) ∧ decode [0x00#8] = .ok (.adcRead, []) ∧
  decode [0x40#8] = .ok (.convertD1Osr256, []) ∧ decode [0x48#8] = .ok (.convertD1Osr4096, []) ∧
  decode [0x52#8] = .ok (.convertD2Osr512, []) ∧ decode [0x56#8] = .ok (.convertD2Osr2048, []) ∧
  decode [0xAA#8] = .ok (.promRead 5#3, [])

/-- R58: a byte decodes to an instruction exactly when it matches that instruction's row, and the row gives the response
length. -/
def Obligations.DecoderFollowsOpcodeMap : Prop :=
  ∀ (b : Byte) (r : OpcodeRow), r ∈ opcodeMap →
    (r.matchesByte b = true ↔ ∃ i, decodeByte b = .ok i ∧ i.mnemonic = r.mnemonic) ∧
    ∀ i, decodeByte b = .ok i → i.mnemonic = r.mnemonic → i.responseLength = r.responseBytes

/-- R53, R55, R56: decoding and encoding agree in both directions, whatever bytes follow. -/
def Obligations.DecodeEncodeAgree : Prop :=
  ∀ (b : Byte) (rest rest' : List Byte) (i : Instr),
    decode (b :: rest) = .ok (i, rest') ↔ encode i = [b] ∧ rest' = rest

/-- R59, R126: the 236 reserved bytes are refused by name, and nothing else is. A byte is asked for by the model's event
`command`: notes/assumptions/3.md. -/
def Obligations.ReservedBytesRefused : Prop :=
  ((List.range 256).filter fun n => !isCommandByte (BitVec.ofNat 8 n)).length = 236 ∧
  ∀ (s : State) (b : Byte) (rest : List Event), s.fault = none → s.schedule = .command b :: rest →
    (isCommandByte b = false → step s = .refused (.illegalCommand b)) ∧
    (isCommandByte b = true → ∃ t, step s = .next t)

/-! ## Reset and the step -/

/-- R32, R141: the power-on values. The configuration, the PROM and the time are the construction's and the world's. That the
reset state's configuration is well-formed, and its PROM in the canonical form, is the model's choice: notes/assumptions/7.md,
8.md, 9.md. -/
def Obligations.PowerOnValues : Prop :=
  (∃ g m t, State.reset = State.powerOn g m t ∧ g.wellFormed = true ∧ m.wf = true) ∧
  ∀ g m t, let s := State.powerOn g m t
    (∀ j : Fin 8, s.cal[j] = none ∧ s.stage[j] = none) ∧ s.calValid = false ∧ s.d1 = none ∧ s.d2 = none ∧
    s.ctl = .needsReset ∧ s.readyAt = 0 ∧ s.last = none ∧ s.fault = none ∧ s.mpc = ⟨.none, 0⟩ ∧
    s.config = g ∧ s.activity = .unknown ∧ s.now = t

/-- R29, R126: a construction with an OSR outside the five is refused; any other gives the power-on state with the OSRs given,
STRICT_CRC false, and the PROM words given. That every timing is accepted, one that breaks R91 or R92 too, and that the PROM is
in a canonical form, is the model's choice: notes/assumptions/8.md, 7.md. -/
def Obligations.ConstructionChecksOsr : Prop :=
  ∀ (osr1 osr2 addr : Nat) (cs : CsVariant) (tm : Timing) (prom : Vector U16 8) (t : Nat),
    (legalOsr osr1 = false ∨ legalOsr osr2 = false → construct osr1 osr2 addr cs tm prom t = .refused .badConfiguration) ∧
    (legalOsr osr1 = true → legalOsr osr2 = true → ∃ o1 o2 m, o1.rate = osr1 ∧ o2.rate = osr2 ∧ m.wf = true ∧
      (∀ j : Fin 8, m.word (BitVec.ofNat 3 j) = prom[j]) ∧
      construct osr1 osr2 addr cs tm prom t = .next (State.powerOn ⟨o1, o2, addr, cs, false, tm⟩ m t))

/-- R28, R128: FAULT is none at power-on, and once set the block takes no further step. That every step of the machine stops then,
a passing of time and a reader included, and the form of the stop, is the model's choice: notes/assumptions/12.md. -/
def Obligations.FaultedBlockTakesNoStep : Prop :=
  State.reset.fault = none ∧
  ∀ (s : State) (k : FaultKind), s.fault = some k →
    step s = .fault (.stopped k) ∧ ∀ i, exec i s = .fault (.stopped k)

/-- The byte that comes next is run as the instruction it decodes to: the step is `exec` of that instruction on the state
without that event, with nothing around it (R59, R71). That single bytes run so is the model's choice: notes/assumptions/3.md. -/
def Obligations.StepRunsSingleCommand : Prop :=
  ∀ (s : State) (b : Byte) (rest : List Event) (i : Instr),
    s.fault = none → s.schedule = .command b :: rest → decode [b] = .ok (i, []) →
    step s = exec i { s with schedule := rest }

/-- A placed word is what the next step runs. The model's own placing: notes/assumptions/20.md. -/
def Obligations.PlacedWordIsRun : Prop :=
  ∀ (s : State) (w : Nat) (i : Instr), s.fault = none → decodeTableWord 8 w = some i →
    step (s.withFetchWord 8 w) = exec i s

/-- R71: in a host operation, a step on the block's turn at a command micro-step is `exec` of that command. Unless it raised a fault
or ended the operation, IDX then advances by one, or, past the last index, the operation returns Ok and MPC becomes (None, 0). -/
def Obligations.StepRunsMicroStepCommand : Prop :=
  ∀ (s : State) (rest : List Event) (i : Instr),
    s.fault = none → s.schedule = .run :: rest → s.mpc.op ≠ .none →
    (sequence s.config s.mpc.op)[s.mpc.idx]? = some (.command i) →
    ∃ t, exec i { s with schedule := rest } = .next t ∧
      step s = .next (
        if t.fault ≠ none ∨ t.mpc.op = .none then t
        else if s.mpc.idx + 1 < (sequence s.config s.mpc.op).length then { t with mpc := ⟨s.mpc.op, s.mpc.idx + 1⟩ }
        else { t with mpc := ⟨.none, 0⟩, returned := t.returned ++ [⟨s.mpc.op.caller, .ok⟩] })

/-! ## Commands -/

/-- R72: the guard table. A failed guard raises the fault of its column and sends nothing; the CTL fault wins; with the guard
met the command's byte is sent. -/
def Obligations.GuardTable : Prop :=
  ∀ (i : Instr) (s : State), s.fault = none →
    (¬ ctlCondition i s → exec i s = .next { s with fault := some .sequenceViolation }) ∧
    (ctlCondition i s → ¬ timeCondition i s → exec i s = .next { s with fault := some (lateFault i) }) ∧
    (ctlCondition i s → timeCondition i s → ∃ t, exec i s = .next t ∧ t.fault = none ∧ t.sent = s.sent ++ encode i)

/-- R129: the TransportFailure effects, at every command whose guard holds and whose transfer fails. The statement is silent on
the sensor, whose activity is then not known: notes/assumptions/6.md. That outside an operation the error goes to the caller
`command`, and that a `wrongLength` answer fails whatever its bytes, is the model's choice: notes/assumptions/3.md, 4.md. -/
def Obligations.TransportFailureEffects : Prop :=
  ∀ (i : Instr) (s : State), s.fault = none → ctlCondition i s → timeCondition i s →
    (s.nextAnswer = .fail ∨ ∃ rx, s.nextAnswer = .wrongLength rx) →
    ∃ t, exec i s = .next t ∧ t.ctl = .needsReset ∧ t.mpc = ⟨.none, 0⟩ ∧
      t.returned = s.returned ++ [⟨s.mpc.op.caller, .err .transportFailure⟩] ∧
      t.cal = s.cal ∧ t.calValid = s.calValid ∧ t.stage = s.stage ∧ t.d1 = s.d1 ∧ t.d2 = s.d2 ∧
      t.readyAt = s.readyAt ∧ t.last = s.last ∧ t.fault = none

/-- R36, R60, R136: a transfer succeeds exactly when the bus gives an answer, and the response then has the command's length and
the answer's byte 0. That a `wrongLength` answer fails whatever its bytes, those of the right length included, is the model's
choice: notes/assumptions/4.md. -/
def Obligations.ResponseHasItsLength : Prop :=
  ∀ (i : Instr) (s : State),
    (s.response i = none ↔ s.nextAnswer = .fail ∨ ∃ rx, s.nextAnswer = .wrongLength rx) ∧
    ∀ rx, s.response i = some rx → rx.length = i.responseLength ∧
      ∃ echo sample, s.nextAnswer = .answer echo sample ∧ rx.head? = some echo

/-- R75: RESET completes from any CTL. It sends 0x1E, sets CTL to Idle and READY_AT to Now() + T_RESET, and leaves every other
register as it was; the pending conversion is dropped. That the answer is taken from `bus` and counted in `draws` is the model's
own (notes/assumptions/4.md, 5.md), here and in the statements of the other commands. -/
def Obligations.ResetCommand : Prop :=
  ∀ (s : State) (echo : Byte) (sample : U24), s.fault = none → s.nextAnswer = .answer echo sample →
    exec .reset s = .next { sentState 0x1E#8 (.settling s.now) s with
      ctl := .idle
      readyAt := s.now + s.config.timing.tReset }

/-- One CONVERT with ch = 0 completes (R76): instruction, OSR and byte as given. -/
def convertD1Completes (i : Instr) (o : Osr) (b : Byte) (delay : Timing → Nat) : Prop :=
  ∀ (s : State) (echo : Byte) (sample : U24), s.fault = none → s.ctl = .idle → s.readyAt ≤ s.now →
    s.nextAnswer = .answer echo sample →
    exec i s = .next { sentState b (.converting .d1 o s.now) s with
      ctl := .pressureConverting
      readyAt := s.now + delay s.config.timing }

/-- One CONVERT with ch = 1 completes (R76): instruction, OSR and byte as given. -/
def convertD2Completes (i : Instr) (o : Osr) (b : Byte) (delay : Timing → Nat) : Prop :=
  ∀ (s : State) (echo : Byte) (sample : U24), s.fault = none → s.ctl = .pressureConverting → s.d1 ≠ none →
    s.readyAt ≤ s.now → s.nextAnswer = .answer echo sample →
    exec i s = .next { sentState b (.converting .d2 o s.now) s with
      ctl := .temperatureConverting
      readyAt := s.now + delay s.config.timing }

/-- R77 to R81: each CONVERT_D1 completes with its byte and its T_CONV. -/
def Obligations.ConvertD1Commands : Prop :=
  convertD1Completes .convertD1Osr256 .osr256 0x40#8 Timing.tConv256 ∧
  convertD1Completes .convertD1Osr512 .osr512 0x42#8 Timing.tConv512 ∧
  convertD1Completes .convertD1Osr1024 .osr1024 0x44#8 Timing.tConv1024 ∧
  convertD1Completes .convertD1Osr2048 .osr2048 0x46#8 Timing.tConv2048 ∧
  convertD1Completes .convertD1Osr4096 .osr4096 0x48#8 Timing.tConv4096

/-- R82 to R86: each CONVERT_D2 completes with its byte and its T_CONV. -/
def Obligations.ConvertD2Commands : Prop :=
  convertD2Completes .convertD2Osr256 .osr256 0x50#8 Timing.tConv256 ∧
  convertD2Completes .convertD2Osr512 .osr512 0x52#8 Timing.tConv512 ∧
  convertD2Completes .convertD2Osr1024 .osr1024 0x54#8 Timing.tConv1024 ∧
  convertD2Completes .convertD2Osr2048 .osr2048 0x56#8 Timing.tConv2048 ∧
  convertD2Completes .convertD2Osr4096 .osr4096 0x58#8 Timing.tConv4096

/-- R87 (with R39): ADC_READ completes in both converting states. It sends 0x00 and writes the measurement to D1 with CTL as it
was, or to D2 with CTL Done; READY_AT is unchanged. -/
def Obligations.AdcReadCommand : Prop :=
  ∀ (s : State) (echo : Byte) (sample : U24), s.fault = none → s.readyAt ≤ s.now →
    s.nextAnswer = .answer echo sample →
    (s.ctl = .pressureConverting → s.d1 = none →
      exec .adcRead s = .next { sentState 0x00#8 .quiet s with d1 := some sample }) ∧
    (s.ctl = .temperatureConverting → s.d2 = none →
      exec .adcRead s = .next { sentState 0x00#8 .quiet s with d2 := some sample, ctl := .done })

/-- R65 (with R31, R38): PROM_READ i completes for every index. It sends 0xA0 | (i << 1) and stages the sensor's PROM word;
CTL and READY_AT, and the sensor's activity, are unchanged. -/
def Obligations.PromReadCommand : Prop :=
  ∀ (s : State) (k : U3) (echo : Byte) (sample : U24), s.fault = none → s.ctl = .idle → s.readyAt ≤ s.now →
    s.nextAnswer = .answer echo sample →
    exec (.promRead k) s = .next { sentState (0xA0#8 ||| (k.setWidth 8 <<< 1)) s.activity s with
      stage := s.stage.set k.toNat (some (s.prom.word k)) (by omega) }

/-- R38, R39, R14: big-endian assembly of the bytes of a response; byte 0 is ignored. -/
def Obligations.ResponsesAreBigEndian : Prop :=
  ∀ (b0 b1 b2 b3 : Byte),
    (promWordOf [b0, b1, b2]).toNat = b1.toNat * 256 + b2.toNat ∧
    (sampleOf [b0, b1, b2, b3]).toNat = b1.toNat * 65536 + b2.toNat * 256 + b3.toNat

/-- The frame of every command: what `exec` leaves unchanged whenever it gives a next state, on its successful, its failing and
its faulting path (R74, R75, R76, R65, R87, R129). -/
def Obligations.CommandFrame : Prop :=
  ∀ (i : Instr) (s t : State), exec i s = .next t →
    t.cal = s.cal ∧ t.calValid = s.calValid ∧ t.last = s.last ∧ t.config = s.config ∧ t.now = s.now ∧
    t.schedule = s.schedule ∧ t.calls = s.calls ∧ (∀ a, t.prom.read a = s.prom.read a) ∧
    (∀ j : Fin 8, i ≠ .promRead (BitVec.ofNat 3 j) → t.stage[j] = s.stage[j]) ∧
    (i ≠ .adcRead → t.d1 = s.d1 ∧ t.d2 = s.d2) ∧
    (i ≠ .reset → ¬ isConvert i → t.readyAt = s.readyAt) ∧
    (t.mpc = s.mpc ∨ t.mpc = ⟨.none, 0⟩) ∧
    (t.ctl = s.ctl ∨ t.ctl = .needsReset ∨ i = .reset ∨ isConvert i ∨ i = .adcRead)

/-! ## Micro-steps -/

/-- R64: LOAD_BEGIN, step 0 of initialize. -/
def Obligations.LoadBeginClearsCalibration : Prop :=
  ∀ (s : State) (rest : List Event), s.fault = none → s.schedule = .run :: rest → s.mpc = ⟨.initialise, 0⟩ →
    step s = .next { s with
      schedule := rest
      cal := Vector.replicate 8 none
      stage := Vector.replicate 8 none
      calValid := false
      mpc := ⟨.initialise, 1⟩ }

/-- R68: LOAD_COMMIT, step 11 of initialize, with every cell staged. Outside the strict mode, or when CRC_CHECK accepts the staged
words, the table is committed whole and initialize returns Ok; else it returns Err(CrcMismatch) with the calibration as it was.
CRC_CHECK is a free value (R69): the statement holds for every one. -/
def Obligations.LoadCommitReplacesCalibration : Prop :=
  ∀ (s : State) (rest : List Event) (words : Vector U16 8), s.fault = none → s.schedule = .run :: rest →
    s.mpc = ⟨.initialise, 11⟩ → (∀ j : Fin 8, s.stage[j] = some words[j]) →
    step s = .next (if s.config.strictCrc = false ∨ Config.crcCheck words = true then
      { s with
        schedule := rest
        cal := s.stage
        calValid := true
        mpc := ⟨.none, 0⟩
        returned := s.returned ++ [⟨.initialise, .ok⟩] }
    else
      { s with
        schedule := rest
        mpc := ⟨.none, 0⟩
        returned := s.returned ++ [⟨.initialise, .err .crcMismatch⟩] })

/-- R89: WAIT holds before READY_AT, with no register changed, and completes from READY_AT on. Completed (R71), it moves IDX on by
one; at the last index, which is step 1 of reset (R115), MPC becomes (None, 0) and the operation returns Ok. -/
def Obligations.WaitHoldsUntilReady : Prop :=
  ∀ (s : State) (rest : List Event), s.fault = none → s.schedule = .run :: rest → s.mpc.op ≠ .none →
    (sequence s.config s.mpc.op)[s.mpc.idx]? = some .wait →
    (s.now < s.readyAt → step s = .next { s with schedule := rest }) ∧
    (s.readyAt ≤ s.now → s.mpc.idx + 1 < (sequence s.config s.mpc.op).length →
      step s = .next { s with schedule := rest, mpc := ⟨s.mpc.op, s.mpc.idx + 1⟩ }) ∧
    (s.readyAt ≤ s.now → (sequence s.config s.mpc.op).length ≤ s.mpc.idx + 1 →
      step s = .next { s with
        schedule := rest
        mpc := ⟨.none, 0⟩
        returned := s.returned ++ [⟨s.mpc.op.caller, .ok⟩] }) ∧
    (s.readyAt ≤ s.now → s.mpc = ⟨.reset, 1⟩ →
      step s = .next { s with schedule := rest, mpc := ⟨.none, 0⟩, returned := s.returned ++ [⟨.reset, .ok⟩] })

/-- R90, R131: BEGIN_CYCLE, step 0 of readCycle, in its four cases and their order. -/
def Obligations.BeginCycleChecks : Prop :=
  ∀ (s : State) (rest : List Event), s.fault = none → s.schedule = .run :: rest → s.mpc = ⟨.readCycle, 0⟩ →
    (s.calValid = false → step s = .next { s with
      schedule := rest
      mpc := ⟨.none, 0⟩
      returned := s.returned ++ [⟨.readCycle, .err .notCalibrated⟩] }) ∧
    (s.calValid = true → s.ctl = .needsReset → step s = .next { s with
      schedule := rest
      mpc := ⟨.none, 0⟩
      returned := s.returned ++ [⟨.readCycle, .err .needsReset⟩] }) ∧
    (s.calValid = true → s.ctl = .pressureConverting ∨ s.ctl = .temperatureConverting →
      step s = .next { s with schedule := rest, fault := some .sequenceViolation }) ∧
    (s.calValid = true → s.ctl = .idle ∨ s.ctl = .done → step s = .next { s with
      schedule := rest
      ctl := .idle
      d1 := none
      d2 := none
      mpc := ⟨.readCycle, 1⟩ })

/-- R111 (with R98): COMPENSATE, step 7 of readCycle, replaces LAST whole and readCycle returns Ok. -/
def Obligations.CompensateReplacesLast : Prop :=
  ∀ (s : State) (rest : List Event) (k : Coefficients) (d1 d2 : U24), s.fault = none → s.schedule = .run :: rest →
    s.mpc = ⟨.readCycle, 7⟩ → coefficients s.cal = some k → s.d1 = some d1 → s.d2 = some d2 →
    ∃ v, v.temp.toInt = tempExact k d2 ∧ v.pressure.toInt = pExact k d1 d2 ∧
      step s = .next { s with
        schedule := rest
        last := some v
        mpc := ⟨.none, 0⟩
        returned := s.returned ++ [⟨.readCycle, .ok⟩] }

/-- R114, R115, R116: the length of each sequence and the bytes its commands send. -/
def Obligations.SequencesSendTheirBytes : Prop :=
  ∀ (g : Configuration),
    let bytes := fun op => (sequence g op).flatMap fun m => match m with | .command i => encode i | _ => []
    (sequence g .initialise).length = 12 ∧ (sequence g .reset).length = 2 ∧ (sequence g .readCycle).length = 8 ∧
    bytes .initialise = [0x1E#8, 0xA0#8, 0xA2#8, 0xA4#8, 0xA6#8, 0xA8#8, 0xAA#8, 0xAC#8, 0xAE#8] ∧
    bytes .reset = [0x1E#8] ∧
    bytes .readCycle =
      [0x40#8 ||| (g.osrD1.k.setWidth 8 <<< 1), 0x00#8, 0x50#8 ||| (g.osrD2.k.setWidth 8 <<< 1), 0x00#8]

/-- R26, R71, R121: in one step MPC stays, moves on by one within its operation, is set to (None, 0), or, from between operations,
points at the start of an operation. -/
def Obligations.MicroStepPointerMoves : Prop :=
  ∀ (s t : State), step s = .next t →
    t.mpc = s.mpc ∨
    (s.mpc.op ≠ .none ∧ t.mpc = ⟨s.mpc.op, s.mpc.idx + 1⟩ ∧ s.mpc.idx + 1 < (sequence s.config s.mpc.op).length) ∨
    t.mpc = ⟨.none, 0⟩ ∨
    (s.mpc.op = .none ∧ t.mpc.op ≠ .none ∧ t.mpc.idx = 0)

/-! ## Host operations -/

/-- R112: while an operation is in progress no other starts; between operations the block's turn starts the host's next call, and
initialize, reset and readCycle begin at MPC = (OP, 0) with nothing else changed. The queue of calls is the model's own:
notes/assumptions/18.md. -/
def Obligations.CallsAreSerialised : Prop :=
  (∀ (s t : State), step s = .next t → s.mpc.op ≠ .none → t.calls = s.calls) ∧
  ∀ (s : State) (rest : List Event) (more : List HostCall), s.fault = none → s.schedule = .run :: rest →
    s.mpc.op = .none →
    (s.calls = .initialise :: more →
      step s = .next { s with schedule := rest, calls := more, mpc := ⟨.initialise, 0⟩ }) ∧
    (s.calls = .reset :: more → step s = .next { s with schedule := rest, calls := more, mpc := ⟨.reset, 0⟩ }) ∧
    (s.calls = .readCycle :: more →
      step s = .next { s with schedule := rest, calls := more, mpc := ⟨.readCycle, 0⟩ }) ∧
    (s.calls = [] → step s = .next { s with schedule := rest })

/-- R117 (with R98): compensate returns Err(NotCalibrated), or Ok with the exact compensation of its arguments; it writes no
register. -/
def Obligations.CompensateCall : Prop :=
  ∀ (s : State) (rest : List Event) (more : List HostCall) (d1 d2 : U24), s.fault = none →
    s.schedule = .run :: rest → s.mpc.op = .none → s.calls = .compensate d1 d2 :: more →
    (s.calValid = false → step s = .next { s with
      schedule := rest
      calls := more
      returned := s.returned ++ [⟨.compensate, .err .notCalibrated⟩] }) ∧
    (s.calValid = true → ∀ k, coefficients s.cal = some k →
      ∃ v, v.temp.toInt = tempExact k d2 ∧ v.pressure.toInt = pExact k d1 d2 ∧
        step s = .next { s with
          schedule := rest
          calls := more
          returned := s.returned ++ [⟨.compensate, .okReading v⟩] })

/-- R118, R119, R48: lastTemperature and lastPressure return what LAST holds, or Err(NoReading), write no register and send
nothing, from a concurrent reader at every micro-step boundary. The floating output is TO_FLOAT of the integer one alone
(R110). That a concurrent reader is the event `reader` is the model's choice: notes/assumptions/18.md. The host's own calls are in
HostReadsLast. -/
def Obligations.ReadersReturnLast : Prop :=
  ∀ (s : State) (rest : List Event), s.fault = none →
    (s.schedule = .reader .lastTemperature :: rest →
      step s = .next { s with
        schedule := rest
        returned := s.returned ++ [⟨.lastTemperature,
          match s.last with
          | none => .err .noReading
          | some v => .okTemperature v.temp (Config.toFloat v.temp.toInt 100)⟩] }) ∧
    (s.schedule = .reader .lastPressure :: rest →
      step s = .next { s with
        schedule := rest
        returned := s.returned ++ [⟨.lastPressure,
          match s.last with
          | none => .err .noReading
          | some v => .okPressure v.pressure (Config.toFloat v.pressure.toInt 100)⟩] })

/-- R118, R119: the host's own calls of lastTemperature and lastPressure return what a reader is given. -/
def Obligations.HostReadsLast : Prop :=
  ∀ (s : State) (rest : List Event) (more : List HostCall) (r : Readout), s.fault = none →
    s.schedule = .run :: rest → s.mpc.op = .none → s.calls = .read r :: more →
    step s = step { s with schedule := .reader r :: rest, calls := more }

/-- R127: "No error is silently swallowed": a step returns at most one result, and the step that ends an operation returns
exactly one, to the caller of that operation. The list of results is the model's own: notes/assumptions/19.md. -/
def Obligations.ResultsReachTheHost : Prop :=
  ∀ (s t : State), step s = .next t →
    (∃ l, t.returned = s.returned ++ l ∧ l.length ≤ 1) ∧
    (s.mpc.op ≠ .none → t.mpc.op = .none →
      ∃ r, t.returned = s.returned ++ [⟨s.mpc.op.caller, r⟩])

/-! ## Compensation -/

/-- R96, R97, R98: the s64 datapath computes the formulas exactly for every input: no intermediate value wraps. That it wraps
where a value would not fit is the model's choice, which this makes harmless: notes/assumptions/17.md. -/
def Obligations.DatapathIsExact : Prop :=
  ∀ (k : Coefficients) (d1 d2 : U24), let dT := dT64 k d2
    dT.toInt = dTExact k d2 ∧ (off64 k dT).toInt = offExact k d2 ∧ (sens64 k dT).toInt = sensExact k d2 ∧
    (x64 d1 (sens64 k dT)).toInt = xExact k d1 d2 ∧
    (comp k d1 d2).temp.toInt = tempExact k d2 ∧ (comp k d1 d2).pressure.toInt = pExact k d1 d2

/-- The value of a term at some input. -/
def attained (f : Coefficients → U24 → U24 → Int) (v : Int) : Prop := ∃ k d1 d2, f k d1 d2 = v

/-- R108: the range of every value over every input, and the bounds that are attained. -/
def Obligations.CompensationRanges : Prop :=
  (∀ (k : Coefficients) (d1 d2 : U24),
    (0 ≤ (k.c5.toNat * 256 : Int) ∧ (k.c5.toNat * 256 : Int) ≤ 16776960) ∧
    (-16776960 ≤ dTExact k d2 ∧ dTExact k d2 ≤ 16777215) ∧
    (-1099478073600 ≤ k.c4.toNat * dTExact k d2 ∧ k.c4.toNat * dTExact k d2 ≤ 1099494785025) ∧
    (-1099478073600 ≤ k.c3.toNat * dTExact k d2 ∧ k.c3.toNat * dTExact k d2 ≤ 1099494785025) ∧
    (-1099478073600 ≤ dTExact k d2 * k.c6.toNat ∧ dTExact k d2 * k.c6.toNat ≤ 1099494785025) ∧
    (-17179344900 ≤ offExact k d2 ∧ offExact k d2 ≤ 25769409536) ∧
    (-8589672450 ≤ sensExact k d2 ∧ sensExact k d2 ≤ 12884704768) ∧
    (-129068 ≤ tempExact k d2 ∧ tempExact k d2 ≤ 133069) ∧
    (-144110781473226750 ≤ d1.toNat * sensExact k d2 ∧ d1.toNat * sensExact k d2 ≤ 216169462104261120) ∧
    (-68717375504 ≤ xExact k d1 d2 ∧ xExact k d1 d2 ≤ 103077632000) ∧
    (-94486785040 ≤ xExact k d1 d2 - offExact k d2 ∧ xExact k d1 d2 - offExact k d2 ≤ 120256976900) ∧
    (-2883507 ≤ pExact k d1 d2 ∧ pExact k d1 d2 ≤ 3669951)) ∧
  (attained (fun k _ d2 => dTExact k d2) (-16776960) ∧ attained (fun k _ d2 => dTExact k d2) 16777215) ∧
  (attained (fun k _ d2 => k.c4.toNat * dTExact k d2) (-1099478073600) ∧
    attained (fun k _ d2 => k.c4.toNat * dTExact k d2) 1099494785025) ∧
  (attained (fun k _ d2 => k.c3.toNat * dTExact k d2) (-1099478073600) ∧
    attained (fun k _ d2 => k.c3.toNat * dTExact k d2) 1099494785025) ∧
  (attained (fun k _ d2 => dTExact k d2 * k.c6.toNat) (-1099478073600) ∧
    attained (fun k _ d2 => dTExact k d2 * k.c6.toNat) 1099494785025) ∧
  (attained (fun k _ d2 => offExact k d2) (-17179344900) ∧ attained (fun k _ d2 => offExact k d2) 25769409536) ∧
  (attained (fun k _ d2 => sensExact k d2) (-8589672450) ∧ attained (fun k _ d2 => sensExact k d2) 12884704768) ∧
  (attained (fun k _ d2 => tempExact k d2) (-129068) ∧ attained (fun k _ d2 => tempExact k d2) 133069) ∧
  (attained (fun k d1 d2 => d1.toNat * sensExact k d2) (-144110781473226750) ∧
    attained (fun k d1 d2 => d1.toNat * sensExact k d2) 216169462104261120) ∧
  (attained xExact (-68717375504) ∧ attained xExact 103077632000) ∧
  (attained pExact (-2359227) ∧ attained pExact 3145679)

/-- R12, R107: the datapath's division truncates toward zero, and differs from an arithmetic right shift exactly when the dividend
is negative and not a multiple of 2^k, where it is one greater. -/
def Obligations.DivisionTruncates : Prop :=
  ∀ (a : S64) (k : Nat), k ∈ [6, 7, 15, 21, 23] →
    (0 ≤ a.toInt → (tdiv64 a k).toInt = ((a.toInt.natAbs / 2 ^ k : Nat) : Int)) ∧
    (a.toInt < 0 → (tdiv64 a k).toInt = -((a.toInt.natAbs / 2 ^ k : Nat) : Int)) ∧
    (¬ (a.toInt < 0 ∧ ¬ (2 ^ k : Int) ∣ a.toInt) → tdiv64 a k = a.sshiftRight k) ∧
    (a.toInt < 0 → ¬ (2 ^ k : Int) ∣ a.toInt → (tdiv64 a k).toInt = (a.sshiftRight k).toInt + 1)

/-- R97: `C[0]` and `C[7]` are no inputs: two states that differ in nothing else take every step alike, but for those cells and
as long as the step is the compensation's. -/
def Obligations.ReservedWordsDoNotMatter : Prop :=
  ∀ (s : State) (w0 w7 : Option U16) (d1 d2 : U24),
    let s' : State := { s with cal := (s.cal.set 0 w0).set 7 w7 }
    (∀ t, compensateStep s = .next t → ∃ t', compensateStep s' = .next t' ∧ t'.last = t.last) ∧
    (∀ t, compensateCall d1 d2 s = .next t → ∃ t', compensateCall d1 d2 s' = .next t' ∧ t'.returned = t.returned)

/-! ## Whole-machine rules -/

/-- R18, R19: `C` and CAL_VALID are written only by LOAD_BEGIN (step 0 of initialize) and LOAD_COMMIT (step 11), and STAGE only by
LOAD_BEGIN and PROM_READ. -/
def Obligations.CalibrationWrittenOnlyByLoad : Prop :=
  ∀ (s t : State), step s = .next t →
    ((t.cal = s.cal ∧ t.calValid = s.calValid) ∨
     (s.mpc = ⟨.initialise, 0⟩ ∧ t.cal = Vector.replicate 8 none ∧ t.calValid = false) ∨
     (s.mpc = ⟨.initialise, 11⟩ ∧ t.cal = s.stage ∧ t.calValid = true)) ∧
    (t.stage = s.stage ∨ (s.mpc = ⟨.initialise, 0⟩ ∧ t.stage = Vector.replicate 8 none) ∨
     ∃ k : U3, t.sent = s.sent ++ encode (.promRead k) ∧
       t.stage = s.stage.set k.toNat (some (s.prom.word k)) (by omega))

/-- R27, R48: LAST is written only by COMPENSATE (step 7 of readCycle), both fields in one step, with the compensation of the
registers. -/
def Obligations.LastWrittenOnlyByCompensate : Prop :=
  ∀ (s t : State), step s = .next t → t.last ≠ s.last →
    s.mpc = ⟨.readCycle, 7⟩ ∧ ∃ k d1 d2, coefficients s.cal = some k ∧ s.d1 = some d1 ∧ s.d2 = some d2 ∧
      t.last = some (comp k d1 d2)

/-- R25: READY_AT is written only by a RESET or a CONVERT that was sent, to Now() plus its delay. What was sent is read off the
model's bus log, here and below: notes/assumptions/19.md. -/
def Obligations.ReadyAtWrittenOnlyByResetAndConvert : Prop :=
  ∀ (s t : State), step s = .next t → t.readyAt ≠ s.readyAt →
    (t.sent = s.sent ++ encode .reset ∧ t.readyAt = t.now + s.config.timing.tReset) ∨
    ∃ ch o, t.sent = s.sent ++ encode (Instr.convert ch o) ∧ t.readyAt = t.now + tConv s.config.timing o

/-- R23, R74, R87, R90: D1 and D2 are written only by BEGIN_CYCLE (step 0 of readCycle), which sets both to none, and by an ADC_READ
that was sent, which fills the one that was none. -/
def Obligations.SamplesWrittenOnlyInACycle : Prop :=
  ∀ (s t : State), step s = .next t →
    (t.d1 = s.d1 ∧ t.d2 = s.d2) ∨
    (s.mpc = ⟨.readCycle, 0⟩ ∧ t.d1 = none ∧ t.d2 = none) ∨
    (t.sent = s.sent ++ encode .adcRead ∧
      ((s.ctl = .pressureConverting ∧ s.d1 = none ∧ t.d1 ≠ none ∧ t.d2 = s.d2) ∨
       (s.ctl = .temperatureConverting ∧ s.d2 = none ∧ t.d2 ≠ none ∧ t.d1 = s.d1)))

/-- R74: every change of CTL in a step is a row of the transition table. -/
def Obligations.CtlChangesByTheTable : Prop :=
  ∀ (s t : State), step s = .next t → t.ctl ≠ s.ctl →
    (t.sent = s.sent ++ encode .reset ∧ t.ctl = .idle) ∨
    (∃ o, t.sent = s.sent ++ encode (Instr.convert .d1 o) ∧ s.ctl = .idle ∧ t.ctl = .pressureConverting) ∨
    (∃ o, t.sent = s.sent ++ encode (Instr.convert .d2 o) ∧ s.ctl = .pressureConverting ∧ s.d1 ≠ none ∧
      t.ctl = .temperatureConverting) ∨
    (t.sent = s.sent ++ encode .adcRead ∧ s.ctl = .temperatureConverting ∧ s.d2 = none ∧ t.ctl = .done ∧ t.d2 ≠ none) ∨
    (s.mpc = ⟨.readCycle, 0⟩ ∧ s.calValid = true ∧ s.ctl = .done ∧ t.ctl = .idle) ∨
    (∃ i, t.sent = s.sent ++ encode i ∧ t.ctl = .needsReset)

/-- R29, R31, R33: no step writes the configuration or the PROM: the sensor's memory keeps every byte and its canonical form. -/
def Obligations.ConfigurationAndPromFixed : Prop :=
  ∀ (s t : State), step s = .next t →
    t.config = s.config ∧ (∀ a, t.prom.read a = s.prom.read a) ∧ (s.prom.wf = true → t.prom.wf = true)

/-- R135: successive readings of the time source never decrease, and the time advances by exactly d at the event `tick d`
(the model's own: notes/assumptions/1.md). -/
def Obligations.TimeNeverDecreases : Prop :=
  (∀ (s t : State), step s = .next t → s.now ≤ t.now) ∧
  ∀ (s : State) (d : Nat) (rest : List Event), s.fault = none → s.schedule = .tick d :: rest →
    step s = .next { s with schedule := rest, now := s.now + d }

/-- R47, R53, R59: a step sends nothing or one command, whole; no reserved byte is ever sent. -/
def Obligations.StepSendsAtMostOneCommand : Prop :=
  ∀ (s t : State), step s = .next t → t.sent = s.sent ∨ ∃ i, t.sent = s.sent ++ encode i

/-! ## Invariants -/

/-- R24, R30, R73: the invariants hold at power-on, for every construction. -/
def Obligations.PowerOnIsConsistent : Prop :=
  ∀ g m t, consistent (State.powerOn g m t) ∧ mirrored (State.powerOn g m t) ∧ faithful (State.powerOn g m t) ∧
    onlyOperations (State.powerOn g m t).schedule

/-- R73 (with R18, R21, R24): "In the fixed sequences ... no guard ever fails": driven by host operations, a consistent block always
takes a step, and the next state is consistent, so no fault is ever raised and no partial calibration is ever held. Single commands
(notes/assumptions/3.md) are outside the fixed sequences and are excluded. -/
def Obligations.OperationsNeverFault : Prop :=
  ∀ (s : State), consistent s → onlyOperations s.schedule →
    ∃ t, step s = .next t ∧ consistent t ∧ onlyOperations t.schedule

/-- R30: driven by host operations, the block keeps the mirror of the sensor's hidden state, in the model's form of it
(notes/assumptions/6.md). -/
def Obligations.SensorStaysMirrored : Prop :=
  ∀ (s t : State), consistent s → onlyOperations s.schedule → mirrored s → step s = .next t → mirrored t

/-- R18, R31, R52: every step, single commands included, keeps every calibration word equal to the sensor's PROM word. -/
def Obligations.CalibrationStaysFaithful : Prop :=
  ∀ (s t : State), faithful s → step s = .next t → faithful t

/-- R88, R144 (H1, H2, H3): driven by host operations, an ADC_READ is sent only when the pending conversion's minimum time has
passed, a command after a RESET only when the settling delay has passed, and a CONVERT only when no conversion is pending. The
sensor's activity and the bus log are in the model's form: notes/assumptions/6.md, 19.md. -/
def Obligations.HazardsAreAvoided : Prop :=
  ∀ (s t : State) (i : Instr), consistent s → onlyOperations s.schedule → mirrored s → step s = .next t →
    t.sent = s.sent ++ encode i → i ≠ .reset →
    (i = .adcRead → ∃ ch o since, s.activity = .converting ch o since ∧ since + tConv s.config.timing o ≤ t.now) ∧
    (∀ since, s.activity = .settling since → since + s.config.timing.tReset ≤ t.now) ∧
    (isConvert i → ∀ ch o since, s.activity ≠ .converting ch o since)

/-- R67, R18, R129: driven by host operations, an initialize that ends with an error leaves no partial table: every C[i] is none and
CAL_VALID is false; a failed transfer leaves CTL at NeedsReset besides. -/
def Obligations.FailedInitializeLeavesNoCalibration : Prop :=
  ∀ (s t : State) (k : ErrorKind), consistent s → onlyOperations s.schedule → s.mpc.op = .initialise → step s = .next t →
    t.returned = s.returned ++ [⟨.initialise, .err k⟩] →
    t.mpc = ⟨.none, 0⟩ ∧ t.calValid = false ∧ (∀ j : Fin 8, t.cal[j] = none) ∧
      (k = .transportFailure → t.ctl = .needsReset)
end

