-- ==== Sys2Proof/Laws/Memory.lean ====
section
/-!
SUPPORT. The PROM's memory: its operations keep the canonical form, a write is read back, and it leaves every other byte
alone.
-/

namespace Sys2Proof.Machine

/-- The power-on memory, with nothing listed, is canonical. -/
theorem Memory.wf_empty : Memory.wf [] = true := rfl

/-- A memory that is canonical from an address on is canonical from any lower one on. -/
theorem Memory.wfFrom_mono {m : Memory} {lo hi : Nat} (h : m.wfFrom hi = true) (hle : lo ≤ hi) :
    m.wfFrom lo = true := by
  cases m with
  | nil => rfl
  | cons p rest =>
    simp only [Memory.wfFrom, Bool.and_eq_true, decide_eq_true_eq] at h ⊢
    exact ⟨⟨⟨hle.trans h.1.1.1, h.1.1.2⟩, h.1.2⟩, h.2⟩

/-- Writing a byte keeps the canonical form. -/
theorem Memory.wfFrom_write {m : Memory} {lo a : Nat} {v : Byte} (h : m.wfFrom lo = true) (hlo : lo ≤ a) :
    (m.write a v).wfFrom lo = true := by
  induction m generalizing lo with
  | nil =>
    by_cases hv : a < Memory.size ∧ v ≠ Memory.unlisted
    · simp [Memory.write, hv, Memory.wfFrom, hlo]
    · simp [Memory.write, hv, Memory.wfFrom]
  | cons p rest ih =>
    obtain ⟨b, w⟩ := p
    have h0 := h
    simp only [Memory.wfFrom, Bool.and_eq_true, decide_eq_true_eq, bne_iff_ne] at h
    obtain ⟨⟨⟨hb, hsz⟩, hw⟩, hrest⟩ := h
    unfold Memory.write
    split_ifs with h1 h2 h3 h4
    · simp only [Memory.wfFrom, Bool.and_eq_true, decide_eq_true_eq, bne_iff_ne]
      exact ⟨⟨⟨hlo, h2.1⟩, h2.2⟩, ⟨⟨by omega, hsz⟩, hw⟩, hrest⟩
    · exact h0
    · subst h3
      simp only [Memory.wfFrom, Bool.and_eq_true, decide_eq_true_eq, bne_iff_ne]
      exact ⟨⟨⟨hlo, hsz⟩, h4⟩, hrest⟩
    · exact Memory.wfFrom_mono hrest (by omega)
    · simp only [Memory.wfFrom, Bool.and_eq_true, decide_eq_true_eq, bne_iff_ne]
      exact ⟨⟨⟨hb, hsz⟩, hw⟩, ih hrest (by omega)⟩

/-- `Memory.write` keeps the canonical form. -/
theorem Memory.wf_write {m : Memory} (a : Nat) (v : Byte) (h : m.wf = true) : (m.write a v).wf = true :=
  Memory.wfFrom_write h (Nat.zero_le a)

/-- `Memory.writeWord` keeps the canonical form. -/
theorem Memory.wf_writeWord {m : Memory} (i : Nat) (w : U16) (h : m.wf = true) : (m.writeWord i w).wf = true :=
  Memory.wf_write _ _ (Memory.wf_write _ _ h)

/-- A PROM made of eight words is canonical. -/
theorem Memory.wf_ofWords (w : Vector U16 8) : (Memory.ofWords w).wf = true := by
  unfold Memory.ofWords
  exact Memory.wf_writeWord _ _ (Memory.wf_writeWord _ _ (Memory.wf_writeWord _ _ (Memory.wf_writeWord _ _
    (Memory.wf_writeWord _ _ (Memory.wf_writeWord _ _ (Memory.wf_writeWord _ _ (Memory.wf_writeWord _ _ rfl)))))))

/-- Below a canonical memory's lowest address every byte is unlisted. -/
theorem Memory.read_below {m : Memory} {lo a : Nat} (h : m.wfFrom lo = true) (ha : a < lo) :
    m.read a = Memory.unlisted := by
  induction m generalizing lo with
  | nil => rfl
  | cons p rest ih =>
    obtain ⟨b, w⟩ := p
    simp only [Memory.wfFrom, Bool.and_eq_true, decide_eq_true_eq, bne_iff_ne] at h
    have hne : b ≠ a := by omega
    simp only [Memory.read, hne, if_false]
    exact ih h.2 (by omega)

/-- A byte written inside the PROM is read back, and a write leaves every other byte alone. -/
theorem Memory.read_write {m : Memory} {lo : Nat} (h : m.wfFrom lo = true) (a : Nat) (v : Byte) (ha : a < Memory.size)
    (x : Nat) : (m.write a v).read x = if x = a then v else m.read x := by
  induction m generalizing lo with
  | nil =>
    by_cases hv : v = Memory.unlisted
    · by_cases hx : x = a <;> simp [Memory.write, hv, Memory.read, hx]
    · by_cases hx : x = a
      · simp [Memory.write, hv, ha, Memory.read, hx]
      · have : a ≠ x := fun e => hx e.symm
        simp [Memory.write, hv, ha, Memory.read, hx, this]
  | cons p rest ih =>
    obtain ⟨b, w⟩ := p
    have h0 := h
    simp only [Memory.wfFrom, Bool.and_eq_true, decide_eq_true_eq, bne_iff_ne] at h
    obtain ⟨⟨⟨hb, hsz⟩, hw⟩, hrest⟩ := h
    rcases lt_trichotomy a b with hab | hab | hab
    · by_cases hv : v = Memory.unlisted
      · have hrd : Memory.read ((b, w) :: rest) a = Memory.unlisted := Memory.read_below (lo := b) (by
          simp only [Memory.wfFrom, Bool.and_eq_true, decide_eq_true_eq, bne_iff_ne]
          exact ⟨⟨⟨le_refl b, hsz⟩, hw⟩, hrest⟩) hab
        by_cases hx : x = a
        · subst hx
          simpa [Memory.write, hab, hv] using hrd
        · simp [Memory.write, hab, hv, hx]
      · by_cases hx : x = a
        · simp [Memory.write, hab, hv, ha, Memory.read, hx]
        · have hne : a ≠ x := fun e => hx e.symm
          simp [Memory.write, hab, hv, ha, Memory.read, hx, hne]
    · subst hab
      by_cases hv : v = Memory.unlisted
      · by_cases hx : x = a
        · subst hx
          simpa [Memory.write, hv] using Memory.read_below hrest (Nat.lt_succ_self x)
        · have hne : a ≠ x := fun e => hx e.symm
          simp [Memory.write, hv, Memory.read, hx, hne]
      · by_cases hx : x = a
        · simp [Memory.write, hv, Memory.read, hx]
        · have hne : a ≠ x := fun e => hx e.symm
          simp [Memory.write, hv, Memory.read, hx, hne]
    · have h1 : ¬ a < b := by omega
      have h2 : a ≠ b := by omega
      by_cases hbx : b = x
      · have hx : x ≠ a := by omega
        subst hbx
        simp [Memory.write, h1, h2, Memory.read, hx]
      · simp [Memory.write, h1, h2, Memory.read, hbx, ih hrest]

end Sys2Proof.Machine
end

