-- ==== Sys2Proof/Laws/State.lean ====
section
/-!
SUPPORT. One lemma per field per update of the state, so that no later proof unfolds a record update.
-/

namespace Sys2Proof.Machine

variable (s : State)

@[simp] theorem State.setStage_cal (i : U3) (w : U16) : (s.setStage i w).cal = s.cal := rfl
@[simp] theorem State.setStage_calValid (i : U3) (w : U16) : (s.setStage i w).calValid = s.calValid := rfl
@[simp] theorem State.setStage_stage (i : U3) (w : U16) : (s.setStage i w).stage = s.stage.set i.toNat (some w) (by omega) := rfl
@[simp] theorem State.setStage_d1 (i : U3) (w : U16) : (s.setStage i w).d1 = s.d1 := rfl
@[simp] theorem State.setStage_d2 (i : U3) (w : U16) : (s.setStage i w).d2 = s.d2 := rfl
@[simp] theorem State.setStage_ctl (i : U3) (w : U16) : (s.setStage i w).ctl = s.ctl := rfl
@[simp] theorem State.setStage_readyAt (i : U3) (w : U16) : (s.setStage i w).readyAt = s.readyAt := rfl
@[simp] theorem State.setStage_last (i : U3) (w : U16) : (s.setStage i w).last = s.last := rfl
@[simp] theorem State.setStage_fault (i : U3) (w : U16) : (s.setStage i w).fault = s.fault := rfl
@[simp] theorem State.setStage_mpc (i : U3) (w : U16) : (s.setStage i w).mpc = s.mpc := rfl
@[simp] theorem State.setStage_config (i : U3) (w : U16) : (s.setStage i w).config = s.config := rfl
@[simp] theorem State.setStage_prom (i : U3) (w : U16) : (s.setStage i w).prom = s.prom := rfl
@[simp] theorem State.setStage_activity (i : U3) (w : U16) : (s.setStage i w).activity = s.activity := rfl
@[simp] theorem State.setStage_now (i : U3) (w : U16) : (s.setStage i w).now = s.now := rfl
@[simp] theorem State.setStage_schedule (i : U3) (w : U16) : (s.setStage i w).schedule = s.schedule := rfl
@[simp] theorem State.setStage_calls (i : U3) (w : U16) : (s.setStage i w).calls = s.calls := rfl
@[simp] theorem State.setStage_bus (i : U3) (w : U16) : (s.setStage i w).bus = s.bus := rfl
@[simp] theorem State.setStage_draws (i : U3) (w : U16) : (s.setStage i w).draws = s.draws := rfl
@[simp] theorem State.setStage_sent (i : U3) (w : U16) : (s.setStage i w).sent = s.sent := rfl
@[simp] theorem State.setStage_returned (i : U3) (w : U16) : (s.setStage i w).returned = s.returned := rfl

@[simp] theorem State.loadBegin_cal : (s.loadBegin).cal = Vector.replicate 8 none := rfl
@[simp] theorem State.loadBegin_calValid : (s.loadBegin).calValid = false := rfl
@[simp] theorem State.loadBegin_stage : (s.loadBegin).stage = Vector.replicate 8 none := rfl
@[simp] theorem State.loadBegin_d1 : (s.loadBegin).d1 = s.d1 := rfl
@[simp] theorem State.loadBegin_d2 : (s.loadBegin).d2 = s.d2 := rfl
@[simp] theorem State.loadBegin_ctl : (s.loadBegin).ctl = s.ctl := rfl
@[simp] theorem State.loadBegin_readyAt : (s.loadBegin).readyAt = s.readyAt := rfl
@[simp] theorem State.loadBegin_last : (s.loadBegin).last = s.last := rfl
@[simp] theorem State.loadBegin_fault : (s.loadBegin).fault = s.fault := rfl
@[simp] theorem State.loadBegin_mpc : (s.loadBegin).mpc = s.mpc := rfl
@[simp] theorem State.loadBegin_config : (s.loadBegin).config = s.config := rfl
@[simp] theorem State.loadBegin_prom : (s.loadBegin).prom = s.prom := rfl
@[simp] theorem State.loadBegin_activity : (s.loadBegin).activity = s.activity := rfl
@[simp] theorem State.loadBegin_now : (s.loadBegin).now = s.now := rfl
@[simp] theorem State.loadBegin_schedule : (s.loadBegin).schedule = s.schedule := rfl
@[simp] theorem State.loadBegin_calls : (s.loadBegin).calls = s.calls := rfl
@[simp] theorem State.loadBegin_bus : (s.loadBegin).bus = s.bus := rfl
@[simp] theorem State.loadBegin_draws : (s.loadBegin).draws = s.draws := rfl
@[simp] theorem State.loadBegin_sent : (s.loadBegin).sent = s.sent := rfl
@[simp] theorem State.loadBegin_returned : (s.loadBegin).returned = s.returned := rfl

@[simp] theorem State.resetDone_cal : (s.resetDone).cal = s.cal := rfl
@[simp] theorem State.resetDone_calValid : (s.resetDone).calValid = s.calValid := rfl
@[simp] theorem State.resetDone_stage : (s.resetDone).stage = s.stage := rfl
@[simp] theorem State.resetDone_d1 : (s.resetDone).d1 = s.d1 := rfl
@[simp] theorem State.resetDone_d2 : (s.resetDone).d2 = s.d2 := rfl
@[simp] theorem State.resetDone_ctl : (s.resetDone).ctl = .idle := rfl
@[simp] theorem State.resetDone_readyAt : (s.resetDone).readyAt = s.now + s.config.timing.tReset := rfl
@[simp] theorem State.resetDone_last : (s.resetDone).last = s.last := rfl
@[simp] theorem State.resetDone_fault : (s.resetDone).fault = s.fault := rfl
@[simp] theorem State.resetDone_mpc : (s.resetDone).mpc = s.mpc := rfl
@[simp] theorem State.resetDone_config : (s.resetDone).config = s.config := rfl
@[simp] theorem State.resetDone_prom : (s.resetDone).prom = s.prom := rfl
@[simp] theorem State.resetDone_activity : (s.resetDone).activity = s.activity := rfl
@[simp] theorem State.resetDone_now : (s.resetDone).now = s.now := rfl
@[simp] theorem State.resetDone_schedule : (s.resetDone).schedule = s.schedule := rfl
@[simp] theorem State.resetDone_calls : (s.resetDone).calls = s.calls := rfl
@[simp] theorem State.resetDone_bus : (s.resetDone).bus = s.bus := rfl
@[simp] theorem State.resetDone_draws : (s.resetDone).draws = s.draws := rfl
@[simp] theorem State.resetDone_sent : (s.resetDone).sent = s.sent := rfl
@[simp] theorem State.resetDone_returned : (s.resetDone).returned = s.returned := rfl

@[simp] theorem State.transferred_cal (i : Instr) (a : Activity) : (s.transferred i a).cal = s.cal := rfl
@[simp] theorem State.transferred_calValid (i : Instr) (a : Activity) : (s.transferred i a).calValid = s.calValid := rfl
@[simp] theorem State.transferred_stage (i : Instr) (a : Activity) : (s.transferred i a).stage = s.stage := rfl
@[simp] theorem State.transferred_d1 (i : Instr) (a : Activity) : (s.transferred i a).d1 = s.d1 := rfl
@[simp] theorem State.transferred_d2 (i : Instr) (a : Activity) : (s.transferred i a).d2 = s.d2 := rfl
@[simp] theorem State.transferred_ctl (i : Instr) (a : Activity) : (s.transferred i a).ctl = s.ctl := rfl
@[simp] theorem State.transferred_readyAt (i : Instr) (a : Activity) : (s.transferred i a).readyAt = s.readyAt := rfl
@[simp] theorem State.transferred_last (i : Instr) (a : Activity) : (s.transferred i a).last = s.last := rfl
@[simp] theorem State.transferred_fault (i : Instr) (a : Activity) : (s.transferred i a).fault = s.fault := rfl
@[simp] theorem State.transferred_mpc (i : Instr) (a : Activity) : (s.transferred i a).mpc = s.mpc := rfl
@[simp] theorem State.transferred_config (i : Instr) (a : Activity) : (s.transferred i a).config = s.config := rfl
@[simp] theorem State.transferred_prom (i : Instr) (a : Activity) : (s.transferred i a).prom = s.prom := rfl
@[simp] theorem State.transferred_activity (i : Instr) (a : Activity) : (s.transferred i a).activity = a := rfl
@[simp] theorem State.transferred_now (i : Instr) (a : Activity) : (s.transferred i a).now = s.now := rfl
@[simp] theorem State.transferred_schedule (i : Instr) (a : Activity) : (s.transferred i a).schedule = s.schedule := rfl
@[simp] theorem State.transferred_calls (i : Instr) (a : Activity) : (s.transferred i a).calls = s.calls := rfl
@[simp] theorem State.transferred_bus (i : Instr) (a : Activity) : (s.transferred i a).bus = s.bus.tail := rfl
@[simp] theorem State.transferred_draws (i : Instr) (a : Activity) : (s.transferred i a).draws = s.draws + 1 := rfl
@[simp] theorem State.transferred_sent (i : Instr) (a : Activity) : (s.transferred i a).sent = s.sent ++ encode i := rfl
@[simp] theorem State.transferred_returned (i : Instr) (a : Activity) : (s.transferred i a).returned = s.returned := rfl

@[simp] theorem State.giveBack_cal (w : Caller) (r : Result) : (s.giveBack w r).cal = s.cal := rfl
@[simp] theorem State.giveBack_calValid (w : Caller) (r : Result) : (s.giveBack w r).calValid = s.calValid := rfl
@[simp] theorem State.giveBack_stage (w : Caller) (r : Result) : (s.giveBack w r).stage = s.stage := rfl
@[simp] theorem State.giveBack_d1 (w : Caller) (r : Result) : (s.giveBack w r).d1 = s.d1 := rfl
@[simp] theorem State.giveBack_d2 (w : Caller) (r : Result) : (s.giveBack w r).d2 = s.d2 := rfl
@[simp] theorem State.giveBack_ctl (w : Caller) (r : Result) : (s.giveBack w r).ctl = s.ctl := rfl
@[simp] theorem State.giveBack_readyAt (w : Caller) (r : Result) : (s.giveBack w r).readyAt = s.readyAt := rfl
@[simp] theorem State.giveBack_last (w : Caller) (r : Result) : (s.giveBack w r).last = s.last := rfl
@[simp] theorem State.giveBack_fault (w : Caller) (r : Result) : (s.giveBack w r).fault = s.fault := rfl
@[simp] theorem State.giveBack_mpc (w : Caller) (r : Result) : (s.giveBack w r).mpc = s.mpc := rfl
@[simp] theorem State.giveBack_config (w : Caller) (r : Result) : (s.giveBack w r).config = s.config := rfl
@[simp] theorem State.giveBack_prom (w : Caller) (r : Result) : (s.giveBack w r).prom = s.prom := rfl
@[simp] theorem State.giveBack_activity (w : Caller) (r : Result) : (s.giveBack w r).activity = s.activity := rfl
@[simp] theorem State.giveBack_now (w : Caller) (r : Result) : (s.giveBack w r).now = s.now := rfl
@[simp] theorem State.giveBack_schedule (w : Caller) (r : Result) : (s.giveBack w r).schedule = s.schedule := rfl
@[simp] theorem State.giveBack_calls (w : Caller) (r : Result) : (s.giveBack w r).calls = s.calls := rfl
@[simp] theorem State.giveBack_bus (w : Caller) (r : Result) : (s.giveBack w r).bus = s.bus := rfl
@[simp] theorem State.giveBack_draws (w : Caller) (r : Result) : (s.giveBack w r).draws = s.draws := rfl
@[simp] theorem State.giveBack_sent (w : Caller) (r : Result) : (s.giveBack w r).sent = s.sent := rfl
@[simp] theorem State.giveBack_returned (w : Caller) (r : Result) : (s.giveBack w r).returned = s.returned ++ [⟨w, r⟩] := rfl

@[simp] theorem State.returnErr_cal (k : ErrorKind) : (s.returnErr k).cal = s.cal := rfl
@[simp] theorem State.returnErr_calValid (k : ErrorKind) : (s.returnErr k).calValid = s.calValid := rfl
@[simp] theorem State.returnErr_stage (k : ErrorKind) : (s.returnErr k).stage = s.stage := rfl
@[simp] theorem State.returnErr_d1 (k : ErrorKind) : (s.returnErr k).d1 = s.d1 := rfl
@[simp] theorem State.returnErr_d2 (k : ErrorKind) : (s.returnErr k).d2 = s.d2 := rfl
@[simp] theorem State.returnErr_ctl (k : ErrorKind) : (s.returnErr k).ctl = s.ctl := rfl
@[simp] theorem State.returnErr_readyAt (k : ErrorKind) : (s.returnErr k).readyAt = s.readyAt := rfl
@[simp] theorem State.returnErr_last (k : ErrorKind) : (s.returnErr k).last = s.last := rfl
@[simp] theorem State.returnErr_fault (k : ErrorKind) : (s.returnErr k).fault = s.fault := rfl
@[simp] theorem State.returnErr_mpc (k : ErrorKind) : (s.returnErr k).mpc = ⟨.none, 0⟩ := rfl
@[simp] theorem State.returnErr_config (k : ErrorKind) : (s.returnErr k).config = s.config := rfl
@[simp] theorem State.returnErr_prom (k : ErrorKind) : (s.returnErr k).prom = s.prom := rfl
@[simp] theorem State.returnErr_activity (k : ErrorKind) : (s.returnErr k).activity = s.activity := rfl
@[simp] theorem State.returnErr_now (k : ErrorKind) : (s.returnErr k).now = s.now := rfl
@[simp] theorem State.returnErr_schedule (k : ErrorKind) : (s.returnErr k).schedule = s.schedule := rfl
@[simp] theorem State.returnErr_calls (k : ErrorKind) : (s.returnErr k).calls = s.calls := rfl
@[simp] theorem State.returnErr_bus (k : ErrorKind) : (s.returnErr k).bus = s.bus := rfl
@[simp] theorem State.returnErr_draws (k : ErrorKind) : (s.returnErr k).draws = s.draws := rfl
@[simp] theorem State.returnErr_sent (k : ErrorKind) : (s.returnErr k).sent = s.sent := rfl
@[simp] theorem State.returnErr_returned (k : ErrorKind) : (s.returnErr k).returned = s.returned ++ [⟨s.mpc.op.caller, .err k⟩] := rfl

@[simp] theorem State.raise_cal (k : FaultKind) : (s.raise k).cal = s.cal := rfl
@[simp] theorem State.raise_calValid (k : FaultKind) : (s.raise k).calValid = s.calValid := rfl
@[simp] theorem State.raise_stage (k : FaultKind) : (s.raise k).stage = s.stage := rfl
@[simp] theorem State.raise_d1 (k : FaultKind) : (s.raise k).d1 = s.d1 := rfl
@[simp] theorem State.raise_d2 (k : FaultKind) : (s.raise k).d2 = s.d2 := rfl
@[simp] theorem State.raise_ctl (k : FaultKind) : (s.raise k).ctl = s.ctl := rfl
@[simp] theorem State.raise_readyAt (k : FaultKind) : (s.raise k).readyAt = s.readyAt := rfl
@[simp] theorem State.raise_last (k : FaultKind) : (s.raise k).last = s.last := rfl
@[simp] theorem State.raise_fault (k : FaultKind) : (s.raise k).fault = some k := rfl
@[simp] theorem State.raise_mpc (k : FaultKind) : (s.raise k).mpc = s.mpc := rfl
@[simp] theorem State.raise_config (k : FaultKind) : (s.raise k).config = s.config := rfl
@[simp] theorem State.raise_prom (k : FaultKind) : (s.raise k).prom = s.prom := rfl
@[simp] theorem State.raise_activity (k : FaultKind) : (s.raise k).activity = s.activity := rfl
@[simp] theorem State.raise_now (k : FaultKind) : (s.raise k).now = s.now := rfl
@[simp] theorem State.raise_schedule (k : FaultKind) : (s.raise k).schedule = s.schedule := rfl
@[simp] theorem State.raise_calls (k : FaultKind) : (s.raise k).calls = s.calls := rfl
@[simp] theorem State.raise_bus (k : FaultKind) : (s.raise k).bus = s.bus := rfl
@[simp] theorem State.raise_draws (k : FaultKind) : (s.raise k).draws = s.draws := rfl
@[simp] theorem State.raise_sent (k : FaultKind) : (s.raise k).sent = s.sent := rfl
@[simp] theorem State.raise_returned (k : FaultKind) : (s.raise k).returned = s.returned := rfl

@[simp] theorem State.transportFailure_cal : (s.transportFailure).cal = s.cal := rfl
@[simp] theorem State.transportFailure_calValid : (s.transportFailure).calValid = s.calValid := rfl
@[simp] theorem State.transportFailure_stage : (s.transportFailure).stage = s.stage := rfl
@[simp] theorem State.transportFailure_d1 : (s.transportFailure).d1 = s.d1 := rfl
@[simp] theorem State.transportFailure_d2 : (s.transportFailure).d2 = s.d2 := rfl
@[simp] theorem State.transportFailure_ctl : (s.transportFailure).ctl = .needsReset := rfl
@[simp] theorem State.transportFailure_readyAt : (s.transportFailure).readyAt = s.readyAt := rfl
@[simp] theorem State.transportFailure_last : (s.transportFailure).last = s.last := rfl
@[simp] theorem State.transportFailure_fault : (s.transportFailure).fault = s.fault := rfl
@[simp] theorem State.transportFailure_mpc : (s.transportFailure).mpc = ⟨.none, 0⟩ := rfl
@[simp] theorem State.transportFailure_config : (s.transportFailure).config = s.config := rfl
@[simp] theorem State.transportFailure_prom : (s.transportFailure).prom = s.prom := rfl
@[simp] theorem State.transportFailure_activity : (s.transportFailure).activity = s.activity := rfl
@[simp] theorem State.transportFailure_now : (s.transportFailure).now = s.now := rfl
@[simp] theorem State.transportFailure_schedule : (s.transportFailure).schedule = s.schedule := rfl
@[simp] theorem State.transportFailure_calls : (s.transportFailure).calls = s.calls := rfl
@[simp] theorem State.transportFailure_bus : (s.transportFailure).bus = s.bus := rfl
@[simp] theorem State.transportFailure_draws : (s.transportFailure).draws = s.draws := rfl
@[simp] theorem State.transportFailure_sent : (s.transportFailure).sent = s.sent := rfl
@[simp] theorem State.transportFailure_returned : (s.transportFailure).returned = s.returned ++ [⟨s.mpc.op.caller, .err .transportFailure⟩] := rfl

@[simp] theorem State.readOut_cal (r : Readout) : (s.readOut r).cal = s.cal := rfl
@[simp] theorem State.readOut_calValid (r : Readout) : (s.readOut r).calValid = s.calValid := rfl
@[simp] theorem State.readOut_stage (r : Readout) : (s.readOut r).stage = s.stage := rfl
@[simp] theorem State.readOut_d1 (r : Readout) : (s.readOut r).d1 = s.d1 := rfl
@[simp] theorem State.readOut_d2 (r : Readout) : (s.readOut r).d2 = s.d2 := rfl
@[simp] theorem State.readOut_ctl (r : Readout) : (s.readOut r).ctl = s.ctl := rfl
@[simp] theorem State.readOut_readyAt (r : Readout) : (s.readOut r).readyAt = s.readyAt := rfl
@[simp] theorem State.readOut_last (r : Readout) : (s.readOut r).last = s.last := rfl
@[simp] theorem State.readOut_fault (r : Readout) : (s.readOut r).fault = s.fault := rfl
@[simp] theorem State.readOut_mpc (r : Readout) : (s.readOut r).mpc = s.mpc := rfl
@[simp] theorem State.readOut_config (r : Readout) : (s.readOut r).config = s.config := rfl
@[simp] theorem State.readOut_prom (r : Readout) : (s.readOut r).prom = s.prom := rfl
@[simp] theorem State.readOut_activity (r : Readout) : (s.readOut r).activity = s.activity := rfl
@[simp] theorem State.readOut_now (r : Readout) : (s.readOut r).now = s.now := rfl
@[simp] theorem State.readOut_schedule (r : Readout) : (s.readOut r).schedule = s.schedule := rfl
@[simp] theorem State.readOut_calls (r : Readout) : (s.readOut r).calls = s.calls := rfl
@[simp] theorem State.readOut_bus (r : Readout) : (s.readOut r).bus = s.bus := rfl
@[simp] theorem State.readOut_draws (r : Readout) : (s.readOut r).draws = s.draws := rfl
@[simp] theorem State.readOut_sent (r : Readout) : (s.readOut r).sent = s.sent := rfl
@[simp] theorem State.readOut_returned (r : Readout) : (s.readOut r).returned = s.returned ++ [⟨r.caller, readResult r s.last⟩] := rfl

@[simp] theorem State.elapse_cal (d : Nat) : (s.elapse d).cal = s.cal := rfl
@[simp] theorem State.elapse_calValid (d : Nat) : (s.elapse d).calValid = s.calValid := rfl
@[simp] theorem State.elapse_stage (d : Nat) : (s.elapse d).stage = s.stage := rfl
@[simp] theorem State.elapse_d1 (d : Nat) : (s.elapse d).d1 = s.d1 := rfl
@[simp] theorem State.elapse_d2 (d : Nat) : (s.elapse d).d2 = s.d2 := rfl
@[simp] theorem State.elapse_ctl (d : Nat) : (s.elapse d).ctl = s.ctl := rfl
@[simp] theorem State.elapse_readyAt (d : Nat) : (s.elapse d).readyAt = s.readyAt := rfl
@[simp] theorem State.elapse_last (d : Nat) : (s.elapse d).last = s.last := rfl
@[simp] theorem State.elapse_fault (d : Nat) : (s.elapse d).fault = s.fault := rfl
@[simp] theorem State.elapse_mpc (d : Nat) : (s.elapse d).mpc = s.mpc := rfl
@[simp] theorem State.elapse_config (d : Nat) : (s.elapse d).config = s.config := rfl
@[simp] theorem State.elapse_prom (d : Nat) : (s.elapse d).prom = s.prom := rfl
@[simp] theorem State.elapse_activity (d : Nat) : (s.elapse d).activity = s.activity := rfl
@[simp] theorem State.elapse_now (d : Nat) : (s.elapse d).now = s.now + d := rfl
@[simp] theorem State.elapse_schedule (d : Nat) : (s.elapse d).schedule = s.schedule := rfl
@[simp] theorem State.elapse_calls (d : Nat) : (s.elapse d).calls = s.calls := rfl
@[simp] theorem State.elapse_bus (d : Nat) : (s.elapse d).bus = s.bus := rfl
@[simp] theorem State.elapse_draws (d : Nat) : (s.elapse d).draws = s.draws := rfl
@[simp] theorem State.elapse_sent (d : Nat) : (s.elapse d).sent = s.sent := rfl
@[simp] theorem State.elapse_returned (d : Nat) : (s.elapse d).returned = s.returned := rfl

@[simp] theorem State.beginOp_cal (op : OpName) : (s.beginOp op).cal = s.cal := rfl
@[simp] theorem State.beginOp_calValid (op : OpName) : (s.beginOp op).calValid = s.calValid := rfl
@[simp] theorem State.beginOp_stage (op : OpName) : (s.beginOp op).stage = s.stage := rfl
@[simp] theorem State.beginOp_d1 (op : OpName) : (s.beginOp op).d1 = s.d1 := rfl
@[simp] theorem State.beginOp_d2 (op : OpName) : (s.beginOp op).d2 = s.d2 := rfl
@[simp] theorem State.beginOp_ctl (op : OpName) : (s.beginOp op).ctl = s.ctl := rfl
@[simp] theorem State.beginOp_readyAt (op : OpName) : (s.beginOp op).readyAt = s.readyAt := rfl
@[simp] theorem State.beginOp_last (op : OpName) : (s.beginOp op).last = s.last := rfl
@[simp] theorem State.beginOp_fault (op : OpName) : (s.beginOp op).fault = s.fault := rfl
@[simp] theorem State.beginOp_mpc (op : OpName) : (s.beginOp op).mpc = ⟨op, 0⟩ := rfl
@[simp] theorem State.beginOp_config (op : OpName) : (s.beginOp op).config = s.config := rfl
@[simp] theorem State.beginOp_prom (op : OpName) : (s.beginOp op).prom = s.prom := rfl
@[simp] theorem State.beginOp_activity (op : OpName) : (s.beginOp op).activity = s.activity := rfl
@[simp] theorem State.beginOp_now (op : OpName) : (s.beginOp op).now = s.now := rfl
@[simp] theorem State.beginOp_schedule (op : OpName) : (s.beginOp op).schedule = s.schedule := rfl
@[simp] theorem State.beginOp_calls (op : OpName) : (s.beginOp op).calls = s.calls := rfl
@[simp] theorem State.beginOp_bus (op : OpName) : (s.beginOp op).bus = s.bus := rfl
@[simp] theorem State.beginOp_draws (op : OpName) : (s.beginOp op).draws = s.draws := rfl
@[simp] theorem State.beginOp_sent (op : OpName) : (s.beginOp op).sent = s.sent := rfl
@[simp] theorem State.beginOp_returned (op : OpName) : (s.beginOp op).returned = s.returned := rfl

@[simp] theorem State.withFetchWord_cal (nbits w : Nat) : (s.withFetchWord nbits w).cal = s.cal := rfl
@[simp] theorem State.withFetchWord_calValid (nbits w : Nat) : (s.withFetchWord nbits w).calValid = s.calValid := rfl
@[simp] theorem State.withFetchWord_stage (nbits w : Nat) : (s.withFetchWord nbits w).stage = s.stage := rfl
@[simp] theorem State.withFetchWord_d1 (nbits w : Nat) : (s.withFetchWord nbits w).d1 = s.d1 := rfl
@[simp] theorem State.withFetchWord_d2 (nbits w : Nat) : (s.withFetchWord nbits w).d2 = s.d2 := rfl
@[simp] theorem State.withFetchWord_ctl (nbits w : Nat) : (s.withFetchWord nbits w).ctl = s.ctl := rfl
@[simp] theorem State.withFetchWord_readyAt (nbits w : Nat) : (s.withFetchWord nbits w).readyAt = s.readyAt := rfl
@[simp] theorem State.withFetchWord_last (nbits w : Nat) : (s.withFetchWord nbits w).last = s.last := rfl
@[simp] theorem State.withFetchWord_fault (nbits w : Nat) : (s.withFetchWord nbits w).fault = s.fault := rfl
@[simp] theorem State.withFetchWord_mpc (nbits w : Nat) : (s.withFetchWord nbits w).mpc = s.mpc := rfl
@[simp] theorem State.withFetchWord_config (nbits w : Nat) : (s.withFetchWord nbits w).config = s.config := rfl
@[simp] theorem State.withFetchWord_prom (nbits w : Nat) : (s.withFetchWord nbits w).prom = s.prom := rfl
@[simp] theorem State.withFetchWord_activity (nbits w : Nat) : (s.withFetchWord nbits w).activity = s.activity := rfl
@[simp] theorem State.withFetchWord_now (nbits w : Nat) : (s.withFetchWord nbits w).now = s.now := rfl
@[simp] theorem State.withFetchWord_schedule (nbits w : Nat) : (s.withFetchWord nbits w).schedule = .command (tableByte nbits w) :: s.schedule := rfl
@[simp] theorem State.withFetchWord_calls (nbits w : Nat) : (s.withFetchWord nbits w).calls = s.calls := rfl
@[simp] theorem State.withFetchWord_bus (nbits w : Nat) : (s.withFetchWord nbits w).bus = s.bus := rfl
@[simp] theorem State.withFetchWord_draws (nbits w : Nat) : (s.withFetchWord nbits w).draws = s.draws := rfl
@[simp] theorem State.withFetchWord_sent (nbits w : Nat) : (s.withFetchWord nbits w).sent = s.sent := rfl
@[simp] theorem State.withFetchWord_returned (nbits w : Nat) : (s.withFetchWord nbits w).returned = s.returned := rfl

@[simp] theorem State.convertDone_cal (ch : Channel) (o : Osr) : (s.convertDone ch o).cal = s.cal := rfl
@[simp] theorem State.convertDone_calValid (ch : Channel) (o : Osr) : (s.convertDone ch o).calValid = s.calValid := rfl
@[simp] theorem State.convertDone_stage (ch : Channel) (o : Osr) : (s.convertDone ch o).stage = s.stage := rfl
@[simp] theorem State.convertDone_d1 (ch : Channel) (o : Osr) : (s.convertDone ch o).d1 = s.d1 := rfl
@[simp] theorem State.convertDone_d2 (ch : Channel) (o : Osr) : (s.convertDone ch o).d2 = s.d2 := rfl
@[simp] theorem State.convertDone_d1_ctl (o : Osr) : (s.convertDone .d1 o).ctl = .pressureConverting := rfl
@[simp] theorem State.convertDone_d2_ctl (o : Osr) : (s.convertDone .d2 o).ctl = .temperatureConverting := rfl
@[simp] theorem State.convertDone_readyAt (ch : Channel) (o : Osr) : (s.convertDone ch o).readyAt = s.now + tConv s.config.timing o := rfl
@[simp] theorem State.convertDone_last (ch : Channel) (o : Osr) : (s.convertDone ch o).last = s.last := rfl
@[simp] theorem State.convertDone_fault (ch : Channel) (o : Osr) : (s.convertDone ch o).fault = s.fault := rfl
@[simp] theorem State.convertDone_mpc (ch : Channel) (o : Osr) : (s.convertDone ch o).mpc = s.mpc := rfl
@[simp] theorem State.convertDone_config (ch : Channel) (o : Osr) : (s.convertDone ch o).config = s.config := rfl
@[simp] theorem State.convertDone_prom (ch : Channel) (o : Osr) : (s.convertDone ch o).prom = s.prom := rfl
@[simp] theorem State.convertDone_activity (ch : Channel) (o : Osr) : (s.convertDone ch o).activity = s.activity := rfl
@[simp] theorem State.convertDone_now (ch : Channel) (o : Osr) : (s.convertDone ch o).now = s.now := rfl
@[simp] theorem State.convertDone_schedule (ch : Channel) (o : Osr) : (s.convertDone ch o).schedule = s.schedule := rfl
@[simp] theorem State.convertDone_calls (ch : Channel) (o : Osr) : (s.convertDone ch o).calls = s.calls := rfl
@[simp] theorem State.convertDone_bus (ch : Channel) (o : Osr) : (s.convertDone ch o).bus = s.bus := rfl
@[simp] theorem State.convertDone_draws (ch : Channel) (o : Osr) : (s.convertDone ch o).draws = s.draws := rfl
@[simp] theorem State.convertDone_sent (ch : Channel) (o : Osr) : (s.convertDone ch o).sent = s.sent := rfl
@[simp] theorem State.convertDone_returned (ch : Channel) (o : Osr) : (s.convertDone ch o).returned = s.returned := rfl

@[simp] theorem State.storeSample_cal (dst : Option Channel) (raw : U24) : (s.storeSample dst raw).cal = s.cal := by
  rcases dst with _ | _ | _ <;> rfl
@[simp] theorem State.storeSample_calValid (dst : Option Channel) (raw : U24) : (s.storeSample dst raw).calValid = s.calValid := by
  rcases dst with _ | _ | _ <;> rfl
@[simp] theorem State.storeSample_stage (dst : Option Channel) (raw : U24) : (s.storeSample dst raw).stage = s.stage := by
  rcases dst with _ | _ | _ <;> rfl
@[simp] theorem State.storeSample_readyAt (dst : Option Channel) (raw : U24) : (s.storeSample dst raw).readyAt = s.readyAt := by
  rcases dst with _ | _ | _ <;> rfl
@[simp] theorem State.storeSample_last (dst : Option Channel) (raw : U24) : (s.storeSample dst raw).last = s.last := by
  rcases dst with _ | _ | _ <;> rfl
@[simp] theorem State.storeSample_fault (dst : Option Channel) (raw : U24) : (s.storeSample dst raw).fault = s.fault := by
  rcases dst with _ | _ | _ <;> rfl
@[simp] theorem State.storeSample_mpc (dst : Option Channel) (raw : U24) : (s.storeSample dst raw).mpc = s.mpc := by
  rcases dst with _ | _ | _ <;> rfl
@[simp] theorem State.storeSample_config (dst : Option Channel) (raw : U24) : (s.storeSample dst raw).config = s.config := by
  rcases dst with _ | _ | _ <;> rfl
@[simp] theorem State.storeSample_prom (dst : Option Channel) (raw : U24) : (s.storeSample dst raw).prom = s.prom := by
  rcases dst with _ | _ | _ <;> rfl
@[simp] theorem State.storeSample_activity (dst : Option Channel) (raw : U24) : (s.storeSample dst raw).activity = s.activity := by
  rcases dst with _ | _ | _ <;> rfl
@[simp] theorem State.storeSample_now (dst : Option Channel) (raw : U24) : (s.storeSample dst raw).now = s.now := by
  rcases dst with _ | _ | _ <;> rfl
@[simp] theorem State.storeSample_schedule (dst : Option Channel) (raw : U24) : (s.storeSample dst raw).schedule = s.schedule := by
  rcases dst with _ | _ | _ <;> rfl
@[simp] theorem State.storeSample_calls (dst : Option Channel) (raw : U24) : (s.storeSample dst raw).calls = s.calls := by
  rcases dst with _ | _ | _ <;> rfl
@[simp] theorem State.storeSample_bus (dst : Option Channel) (raw : U24) : (s.storeSample dst raw).bus = s.bus := by
  rcases dst with _ | _ | _ <;> rfl
@[simp] theorem State.storeSample_draws (dst : Option Channel) (raw : U24) : (s.storeSample dst raw).draws = s.draws := by
  rcases dst with _ | _ | _ <;> rfl
@[simp] theorem State.storeSample_sent (dst : Option Channel) (raw : U24) : (s.storeSample dst raw).sent = s.sent := by
  rcases dst with _ | _ | _ <;> rfl
@[simp] theorem State.storeSample_returned (dst : Option Channel) (raw : U24) : (s.storeSample dst raw).returned = s.returned := by
  rcases dst with _ | _ | _ <;> rfl
@[simp] theorem State.storeSample_to_d1_d1 (raw : U24) : (s.storeSample (some .d1) raw).d1 = some raw := rfl
@[simp] theorem State.storeSample_to_d1_d2 (raw : U24) : (s.storeSample (some .d1) raw).d2 = s.d2 := rfl
@[simp] theorem State.storeSample_to_d1_ctl (raw : U24) : (s.storeSample (some .d1) raw).ctl = s.ctl := rfl
@[simp] theorem State.storeSample_to_d2_d1 (raw : U24) : (s.storeSample (some .d2) raw).d1 = s.d1 := rfl
@[simp] theorem State.storeSample_to_d2_d2 (raw : U24) : (s.storeSample (some .d2) raw).d2 = some raw := rfl
@[simp] theorem State.storeSample_to_d2_ctl (raw : U24) : (s.storeSample (some .d2) raw).ctl = .done := rfl
@[simp] theorem State.storeSample_nowhere (raw : U24) : s.storeSample none raw = s := rfl

@[simp] theorem State.advance_cal : s.advance.cal = s.cal := by unfold State.advance; split <;> rfl
@[simp] theorem State.advance_calValid : s.advance.calValid = s.calValid := by unfold State.advance; split <;> rfl
@[simp] theorem State.advance_stage : s.advance.stage = s.stage := by unfold State.advance; split <;> rfl
@[simp] theorem State.advance_d1 : s.advance.d1 = s.d1 := by unfold State.advance; split <;> rfl
@[simp] theorem State.advance_d2 : s.advance.d2 = s.d2 := by unfold State.advance; split <;> rfl
@[simp] theorem State.advance_ctl : s.advance.ctl = s.ctl := by unfold State.advance; split <;> rfl
@[simp] theorem State.advance_readyAt : s.advance.readyAt = s.readyAt := by unfold State.advance; split <;> rfl
@[simp] theorem State.advance_last : s.advance.last = s.last := by unfold State.advance; split <;> rfl
@[simp] theorem State.advance_fault : s.advance.fault = s.fault := by unfold State.advance; split <;> rfl
@[simp] theorem State.advance_config : s.advance.config = s.config := by unfold State.advance; split <;> rfl
@[simp] theorem State.advance_prom : s.advance.prom = s.prom := by unfold State.advance; split <;> rfl
@[simp] theorem State.advance_activity : s.advance.activity = s.activity := by unfold State.advance; split <;> rfl
@[simp] theorem State.advance_now : s.advance.now = s.now := by unfold State.advance; split <;> rfl
@[simp] theorem State.advance_schedule : s.advance.schedule = s.schedule := by unfold State.advance; split <;> rfl
@[simp] theorem State.advance_calls : s.advance.calls = s.calls := by unfold State.advance; split <;> rfl
@[simp] theorem State.advance_bus : s.advance.bus = s.bus := by unfold State.advance; split <;> rfl
@[simp] theorem State.advance_draws : s.advance.draws = s.draws := by unfold State.advance; split <;> rfl
@[simp] theorem State.advance_sent : s.advance.sent = s.sent := by unfold State.advance; split <;> rfl

@[simp] theorem State.advanceUnlessEnded_cal : s.advanceUnlessEnded.cal = s.cal := by unfold State.advanceUnlessEnded; split <;> simp
@[simp] theorem State.advanceUnlessEnded_calValid : s.advanceUnlessEnded.calValid = s.calValid := by unfold State.advanceUnlessEnded; split <;> simp
@[simp] theorem State.advanceUnlessEnded_stage : s.advanceUnlessEnded.stage = s.stage := by unfold State.advanceUnlessEnded; split <;> simp
@[simp] theorem State.advanceUnlessEnded_d1 : s.advanceUnlessEnded.d1 = s.d1 := by unfold State.advanceUnlessEnded; split <;> simp
@[simp] theorem State.advanceUnlessEnded_d2 : s.advanceUnlessEnded.d2 = s.d2 := by unfold State.advanceUnlessEnded; split <;> simp
@[simp] theorem State.advanceUnlessEnded_ctl : s.advanceUnlessEnded.ctl = s.ctl := by unfold State.advanceUnlessEnded; split <;> simp
@[simp] theorem State.advanceUnlessEnded_readyAt : s.advanceUnlessEnded.readyAt = s.readyAt := by unfold State.advanceUnlessEnded; split <;> simp
@[simp] theorem State.advanceUnlessEnded_last : s.advanceUnlessEnded.last = s.last := by unfold State.advanceUnlessEnded; split <;> simp
@[simp] theorem State.advanceUnlessEnded_fault : s.advanceUnlessEnded.fault = s.fault := by unfold State.advanceUnlessEnded; split <;> simp
@[simp] theorem State.advanceUnlessEnded_config : s.advanceUnlessEnded.config = s.config := by unfold State.advanceUnlessEnded; split <;> simp
@[simp] theorem State.advanceUnlessEnded_prom : s.advanceUnlessEnded.prom = s.prom := by unfold State.advanceUnlessEnded; split <;> simp
@[simp] theorem State.advanceUnlessEnded_activity : s.advanceUnlessEnded.activity = s.activity := by unfold State.advanceUnlessEnded; split <;> simp
@[simp] theorem State.advanceUnlessEnded_now : s.advanceUnlessEnded.now = s.now := by unfold State.advanceUnlessEnded; split <;> simp
@[simp] theorem State.advanceUnlessEnded_schedule : s.advanceUnlessEnded.schedule = s.schedule := by unfold State.advanceUnlessEnded; split <;> simp
@[simp] theorem State.advanceUnlessEnded_calls : s.advanceUnlessEnded.calls = s.calls := by unfold State.advanceUnlessEnded; split <;> simp
@[simp] theorem State.advanceUnlessEnded_bus : s.advanceUnlessEnded.bus = s.bus := by unfold State.advanceUnlessEnded; split <;> simp
@[simp] theorem State.advanceUnlessEnded_draws : s.advanceUnlessEnded.draws = s.draws := by unfold State.advanceUnlessEnded; split <;> simp
@[simp] theorem State.advanceUnlessEnded_sent : s.advanceUnlessEnded.sent = s.sent := by unfold State.advanceUnlessEnded; split <;> simp

@[simp] theorem State.waitStep_cal : s.waitStep.cal = s.cal := by unfold State.waitStep; split <;> simp
@[simp] theorem State.waitStep_calValid : s.waitStep.calValid = s.calValid := by unfold State.waitStep; split <;> simp
@[simp] theorem State.waitStep_stage : s.waitStep.stage = s.stage := by unfold State.waitStep; split <;> simp
@[simp] theorem State.waitStep_d1 : s.waitStep.d1 = s.d1 := by unfold State.waitStep; split <;> simp
@[simp] theorem State.waitStep_d2 : s.waitStep.d2 = s.d2 := by unfold State.waitStep; split <;> simp
@[simp] theorem State.waitStep_ctl : s.waitStep.ctl = s.ctl := by unfold State.waitStep; split <;> simp
@[simp] theorem State.waitStep_readyAt : s.waitStep.readyAt = s.readyAt := by unfold State.waitStep; split <;> simp
@[simp] theorem State.waitStep_last : s.waitStep.last = s.last := by unfold State.waitStep; split <;> simp
@[simp] theorem State.waitStep_fault : s.waitStep.fault = s.fault := by unfold State.waitStep; split <;> simp
@[simp] theorem State.waitStep_config : s.waitStep.config = s.config := by unfold State.waitStep; split <;> simp
@[simp] theorem State.waitStep_prom : s.waitStep.prom = s.prom := by unfold State.waitStep; split <;> simp
@[simp] theorem State.waitStep_activity : s.waitStep.activity = s.activity := by unfold State.waitStep; split <;> simp
@[simp] theorem State.waitStep_now : s.waitStep.now = s.now := by unfold State.waitStep; split <;> simp
@[simp] theorem State.waitStep_schedule : s.waitStep.schedule = s.schedule := by unfold State.waitStep; split <;> simp
@[simp] theorem State.waitStep_calls : s.waitStep.calls = s.calls := by unfold State.waitStep; split <;> simp
@[simp] theorem State.waitStep_bus : s.waitStep.bus = s.bus := by unfold State.waitStep; split <;> simp
@[simp] theorem State.waitStep_draws : s.waitStep.draws = s.draws := by unfold State.waitStep; split <;> simp
@[simp] theorem State.waitStep_sent : s.waitStep.sent = s.sent := by unfold State.waitStep; split <;> simp

/-- A completed micro-step that is not the last of its sequence moves IDX on (R71). -/
theorem State.advance_mpc_next (h : s.mpc.idx + 1 < (sequence s.config s.mpc.op).length) :
    s.advance = { s with mpc := ⟨s.mpc.op, s.mpc.idx + 1⟩ } := by
  simp [State.advance, h]

/-- The last micro-step of a sequence ends the operation with Ok (R71). -/
theorem State.advance_mpc_last (h : ¬ s.mpc.idx + 1 < (sequence s.config s.mpc.op).length) :
    s.advance = { s with mpc := ⟨.none, 0⟩, returned := s.returned ++ [⟨s.mpc.op.caller, .ok⟩] } := by
  simp [State.advance, h]

end Sys2Proof.Machine
end

