-- ==== Sys2Proof/Laws/Ops.lean ====
section
/-!
SUPPORT. What the shared operations can do, said once: a transfer, a command, `exec`, and a step. Later proofs cite these lemmas
instead of unfolding the operations.
-/

namespace Sys2Proof.Machine

open Sys2Proof.Safety

/-- The guard of each command, as its meaning has it (R72). -/
def execGuard (i : Instr) (s : State) : Option FaultKind :=
  match i with
  | .reset => guardReset
  | .convertD1Osr256 | .convertD1Osr512 | .convertD1Osr1024 | .convertD1Osr2048 | .convertD1Osr4096 => guardConvertD1 s
  | .convertD2Osr256 | .convertD2Osr512 | .convertD2Osr1024 | .convertD2Osr2048 | .convertD2Osr4096 => guardConvertD2 s
  | .adcRead => guardAdcRead s
  | .promRead _ => guardPromRead s

/-- The state writes of each command from its response, in a state that was `s` before the transfer (R65, R75, R76, R87). -/
def execWrites (i : Instr) (s : State) (rx : List Byte) (t : State) : State :=
  match i with
  | .reset => t.resetDone
  | .convertD1Osr256 => t.convertDone .d1 .osr256
  | .convertD1Osr512 => t.convertDone .d1 .osr512
  | .convertD1Osr1024 => t.convertDone .d1 .osr1024
  | .convertD1Osr2048 => t.convertDone .d1 .osr2048
  | .convertD1Osr4096 => t.convertDone .d1 .osr4096
  | .convertD2Osr256 => t.convertDone .d2 .osr256
  | .convertD2Osr512 => t.convertDone .d2 .osr512
  | .convertD2Osr1024 => t.convertDone .d2 .osr1024
  | .convertD2Osr2048 => t.convertDone .d2 .osr2048
  | .convertD2Osr4096 => t.convertDone .d2 .osr4096
  | .adcRead => t.storeSample s.adcDestination (sampleOf rx)
  | .promRead k => t.setStage k (promWordOf rx)

/-- Every meaning is the common command with its own guard and writes. -/
theorem exec_eq_command (i : Instr) (s : State) : exec i s = command i (execGuard i s) (execWrites i s) s := by
  cases i <;> rfl

/-- The payload of an answer has the length its command's row gives, less the byte 0 (R60). -/
theorem answerPayload_length (i : Instr) (sample : U24) (m : Memory) :
    (answerPayload i sample m).length + 1 = i.responseLength := by
  cases i <;> rfl

/-- An answer gives byte 0 and the payload. -/
theorem response_of_answer {i : Instr} {s : State} {echo : Byte} {sample : U24}
    (h : s.nextAnswer = .answer echo sample) : s.response i = some (echo :: answerPayload i sample s.prom) := by
  have hl := answerPayload_length i sample s.prom
  simp [State.response, h, transportReturns, received, hl]

/-- A failure gives no response. -/
theorem response_of_fail {i : Instr} {s : State} (h : s.nextAnswer = .fail) : s.response i = none := by
  simp [State.response, h, transportReturns, received]

/-- A sequence of the wrong length gives no response (R36). -/
theorem response_of_wrongLength {i : Instr} {s : State} {rx : List Byte} (h : s.nextAnswer = .wrongLength rx) :
    s.response i = none := by
  have hn : i.responseLength ≠ 0 := by cases i <;> simp [Instr.responseLength]
  by_cases hl : rx.length = i.responseLength
  · simp [State.response, h, transportReturns, received, hl, hn.symm]
  · simp [State.response, h, transportReturns, received, hl]

/-- The two bytes of a word, put together again, are the word. -/
theorem be16_bytes (x : U16) : be16 (x.extractLsb 15 8) (x.extractLsb 7 0) = x := by
  unfold be16
  ext i hi
  simp
  grind

/-- The three bytes of a sample, put together again, are the sample. -/
theorem be24_bytes (x : U24) : be24 (x.extractLsb 23 16) (x.extractLsb 15 8) (x.extractLsb 7 0) = x := by
  unfold be24
  ext i hi
  simp
  grind

/-- A word placed at an index is read back there, and the word of every other index is left alone. -/
theorem Memory.word_writeWord {m : Memory} (hm : m.wf = true) (i : Nat) (hi : i < 8) (w : U16) (k : U3) :
    (m.writeWord i w).word k = if k.toNat = i then w else m.word k := by
  have h1 : m.wfFrom 0 = true := hm
  have h2 : (m.write (2 * i) (w.extractLsb 15 8)).wfFrom 0 = true := Memory.wf_write _ _ hm
  have hk := k.isLt
  have hs : 2 * i < Memory.size ∧ 2 * i + 1 < Memory.size := by unfold Memory.size; omega
  unfold Memory.word Memory.writeWord
  rw [Memory.read_write h2 _ _ hs.2, Memory.read_write h2 _ _ hs.2, Memory.read_write h1 _ _ hs.1,
    Memory.read_write h1 _ _ hs.1]
  split_ifs with hki <;> first | omega | exact be16_bytes w | rfl
/-- A PROM made of eight words holds each at its index. -/
theorem Memory.word_ofWords (w : Vector U16 8) (j : Fin 8) : (Memory.ofWords w).word (BitVec.ofNat 3 j) = w[j] := by
  have h0 := Memory.wf_writeWord 0 w[0] Memory.wf_empty
  have h1 := Memory.wf_writeWord 1 w[1] h0
  have h2 := Memory.wf_writeWord 2 w[2] h1
  have h3 := Memory.wf_writeWord 3 w[3] h2
  have h4 := Memory.wf_writeWord 4 w[4] h3
  have h5 := Memory.wf_writeWord 5 w[5] h4
  have h6 := Memory.wf_writeWord 6 w[6] h5
  unfold Memory.ofWords
  rw [Memory.word_writeWord h6 7 (by decide),
    Memory.word_writeWord h5 6 (by decide),
    Memory.word_writeWord h4 5 (by decide),
    Memory.word_writeWord h3 4 (by decide),
    Memory.word_writeWord h2 3 (by decide),
    Memory.word_writeWord h1 2 (by decide),
    Memory.word_writeWord h0 1 (by decide),
    Memory.word_writeWord Memory.wf_empty 0 (by decide)]
  match j with
  | 0 => rfl
  | 1 => rfl
  | 2 => rfl
  | 3 => rfl
  | 4 => rfl
  | 5 => rfl
  | 6 => rfl
  | 7 => rfl

/-- A response comes from an answer of the bus. -/
theorem response_some {i : Instr} {s : State} {rx : List Byte} (h : s.response i = some rx) :
    ∃ echo sample, s.nextAnswer = .answer echo sample ∧ rx = echo :: answerPayload i sample s.prom := by
  cases ha : s.nextAnswer with
  | fail => rw [response_of_fail ha] at h; cases h
  | wrongLength r => rw [response_of_wrongLength ha] at h; cases h
  | answer echo sample => rw [response_of_answer ha] at h; cases h; exact ⟨echo, sample, rfl, rfl⟩

/-- The word a PROM_READ assembles is the sensor's PROM word (R31, R38). -/
theorem promWordOf_response {k : U3} {s : State} {rx : List Byte} (h : s.response (.promRead k) = some rx) :
    promWordOf rx = s.prom.word k := by
  obtain ⟨echo, sample, -, rfl⟩ := response_some h
  exact be16_bytes _

/-- The sample an ADC_READ assembles is the sensor's measurement (R39, R136). -/
theorem sampleOf_answer (echo : Byte) (sample : U24) (m : Memory) :
    sampleOf (echo :: answerPayload .adcRead sample m) = sample := be24_bytes sample

/-- What `exec` can do: it stops a faulted block, raises its guard's fault, fails with its transfer, or writes from the
response. -/
theorem exec_cases (i : Instr) (s : State) :
    (∃ k, s.fault = some k ∧ exec i s = .fault (.stopped k)) ∨
    (s.fault = none ∧ ∃ k, execGuard i s = some k ∧ exec i s = .next (s.raise k)) ∨
    (s.fault = none ∧ execGuard i s = none ∧ s.response i = none ∧ exec i s = .next (failedState i.opcode s)) ∨
    (s.fault = none ∧ execGuard i s = none ∧ ∃ rx, s.response i = some rx ∧
      exec i s = .next (execWrites i s rx (s.transferred i (activityAfter i s.now s.activity)))) := by
  rw [exec_eq_command]
  unfold command
  cases hf : s.fault with
  | some k => exact .inl ⟨k, rfl, rfl⟩
  | none =>
    cases hg : execGuard i s with
    | some k => exact .inr (.inl ⟨rfl, k, rfl, rfl⟩)
    | none =>
      cases hr : s.response i with
      | none => exact .inr (.inr (.inl ⟨rfl, rfl, rfl, rfl⟩))
      | some rx => exact .inr (.inr (.inr ⟨rfl, rfl, rx, rfl, rfl⟩))

/-- The cases of `exec` when it gives a next state. -/
theorem exec_next {i : Instr} {s t : State} (h : exec i s = .next t) :
    s.fault = none ∧
      ((∃ k, execGuard i s = some k ∧ t = s.raise k) ∨
       (execGuard i s = none ∧ s.response i = none ∧ t = failedState i.opcode s) ∨
       (execGuard i s = none ∧ ∃ rx, s.response i = some rx ∧
         t = execWrites i s rx (s.transferred i (activityAfter i s.now s.activity)))) := by
  rcases exec_cases i s with ⟨k, _, he⟩ | ⟨hf, k, hg, he⟩ | ⟨hf, hg, hr, he⟩ | ⟨hf, hg, rx, hr, he⟩
  · rw [he] at h; cases h
  · rw [he] at h; cases h; exact ⟨hf, .inl ⟨k, hg, rfl⟩⟩
  · rw [he] at h; cases h; exact ⟨hf, .inr (.inl ⟨hg, hr, rfl⟩)⟩
  · rw [he] at h; cases h; exact ⟨hf, .inr (.inr ⟨hg, rx, hr, rfl⟩)⟩

/-- The guard in the terms of R72's table. -/
theorem execGuard_eq_none (i : Instr) (s : State) : execGuard i s = none ↔ ctlCondition i s ∧ timeCondition i s := by
  cases i <;>
    simp [execGuard, guardReset, guardConvertD1, guardConvertD2, guardAdcRead, guardPromRead, guardOf, ctlCondition,
      timeCondition, State.timeReached, State.adcDestination] <;>
    split_ifs <;> simp_all

/-- The four cases of BEGIN_CYCLE (R90). -/
theorem beginCycle_cases (s : State) :
    (s.calValid = false ∧ s.beginCycle = s.returnErr .notCalibrated) ∨
    (s.calValid = true ∧ s.ctl = .needsReset ∧ s.beginCycle = s.returnErr .needsReset) ∨
    (s.calValid = true ∧ (s.ctl = .idle ∨ s.ctl = .done) ∧ s.beginCycle = { s with ctl := .idle, d1 := none, d2 := none }) ∨
    (s.calValid = true ∧ (s.ctl = .pressureConverting ∨ s.ctl = .temperatureConverting) ∧
      s.beginCycle = s.raise .sequenceViolation) := by
  unfold State.beginCycle
  cases s.calValid <;> cases s.ctl <;> simp

/-- LOAD_COMMIT commits the staged cells or returns Err(CrcMismatch) (R68). -/
theorem loadCommit_next {s t : State} (h : loadCommit s = .next t) :
    (∃ words, allWords s.stage = some words) ∧
      (t = { s with cal := s.stage, calValid := true } ∨ t = s.returnErr .crcMismatch) := by
  unfold loadCommit at h
  cases hw : allWords s.stage with
  | none => rw [hw] at h; cases h
  | some words =>
    rw [hw] at h
    refine ⟨⟨words, rfl⟩, ?_⟩
    dsimp only at h
    split_ifs at h
    · cases h; exact .inl rfl
    · cases h; exact .inr rfl

/-- COMPENSATE writes LAST from the registers (R111). -/
theorem compensateStep_next {s t : State} (h : compensateStep s = .next t) :
    ∃ k d1 d2, coefficients s.cal = some k ∧ s.d1 = some d1 ∧ s.d2 = some d2 ∧ t = { s with last := some (comp k d1 d2) } := by
  unfold compensateStep at h
  split at h
  · rename_i k d1 d2 hk h1 h2
    cases h
    exact ⟨k, d1, d2, hk, h1, h2, rfl⟩
  · cases h

/-- Only `C` and CAL_VALID decide whether the calibration is whole or absent. -/
theorem calibrationWhole_congr {s t : State} (hc : t.cal = s.cal) (hv : t.calValid = s.calValid) (h : calibrationWhole s) :
    calibrationWhole t := by
  unfold calibrationWhole at *
  rw [hc, hv]
  exact h

/-- LOAD_BEGIN leaves no calibration at all (R64). -/
theorem calibrationWhole_loadBegin (s : State) : calibrationWhole s.loadBegin :=
  ⟨fun h => by simp at h, fun _ j => by simp⟩

/-- LOAD_COMMIT of eight staged words leaves a whole calibration (R68). -/
theorem calibrationWhole_commit {s : State} (h : ∀ j : Fin 8, s.stage[j] ≠ none) :
    calibrationWhole { s with cal := s.stage, calValid := true } :=
  ⟨fun _ => h, fun hv => by simp at hv⟩

/-- The coefficients are there when every cell holds a word. -/
theorem coefficients_of_all {cells : Cells} (h : ∀ j : Fin 8, cells[j] ≠ none) : ∃ k, coefficients cells = some k := by
  obtain ⟨w1, h1⟩ := Option.ne_none_iff_exists'.1 (h 1)
  obtain ⟨w2, h2⟩ := Option.ne_none_iff_exists'.1 (h 2)
  obtain ⟨w3, h3⟩ := Option.ne_none_iff_exists'.1 (h 3)
  obtain ⟨w4, h4⟩ := Option.ne_none_iff_exists'.1 (h 4)
  obtain ⟨w5, h5⟩ := Option.ne_none_iff_exists'.1 (h 5)
  obtain ⟨w6, h6⟩ := Option.ne_none_iff_exists'.1 (h 6)
  exact ⟨⟨w1, w2, w3, w4, w5, w6⟩, by
    unfold coefficients
    rw [show cells[1] = _ from h1, show cells[2] = _ from h2, show cells[3] = _ from h3, show cells[4] = _ from h4,
      show cells[5] = _ from h5, show cells[6] = _ from h6]⟩

/-- The words are there when every cell holds one, and they are the cells'. -/
theorem allWords_of_all {cells : Cells} (h : ∀ j : Fin 8, cells[j] ≠ none) : ∃ w, allWords cells = some w := by
  obtain ⟨w0, h0⟩ := Option.ne_none_iff_exists'.1 (h 0)
  obtain ⟨w1, h1⟩ := Option.ne_none_iff_exists'.1 (h 1)
  obtain ⟨w2, h2⟩ := Option.ne_none_iff_exists'.1 (h 2)
  obtain ⟨w3, h3⟩ := Option.ne_none_iff_exists'.1 (h 3)
  obtain ⟨w4, h4⟩ := Option.ne_none_iff_exists'.1 (h 4)
  obtain ⟨w5, h5⟩ := Option.ne_none_iff_exists'.1 (h 5)
  obtain ⟨w6, h6⟩ := Option.ne_none_iff_exists'.1 (h 6)
  obtain ⟨w7, h7⟩ := Option.ne_none_iff_exists'.1 (h 7)
  exact ⟨#v[w0, w1, w2, w3, w4, w5, w6, w7], by
    unfold allWords
    rw [show cells[0] = _ from h0, show cells[1] = _ from h1, show cells[2] = _ from h2, show cells[3] = _ from h3,
      show cells[4] = _ from h4, show cells[5] = _ from h5, show cells[6] = _ from h6, show cells[7] = _ from h7]⟩

/-- An outcome advanced is a next state exactly when the outcome was. -/
theorem advanced_next {o : Host.Outcome State Fault Refusal} {t : State} (h : advanced o = .next t) :
    ∃ u, o = .next u ∧ t = u.advanceUnlessEnded := by
  cases o with
  | next u => cases h; exact ⟨u, rfl, rfl⟩
  | fault r => cases h
  | refused r => cases h

/-- A step that gives a next state handled an event on a block without a fault. -/
theorem step_next {s t : State} (h : step s = .next t) :
    s.fault = none ∧ handle s.takeEvent.1 s.takeEvent.2 = .next t := by
  unfold step at h
  cases hf : s.fault with
  | some k => rw [hf] at h; cases h
  | none => rw [hf] at h; exact ⟨rfl, h⟩

/-- A step with an event scripted, on a block without a fault, is that event happening to the state without it. -/
theorem step_scheduled {s : State} {e : Event} {rest : List Event} (hf : s.fault = none) (hs : s.schedule = e :: rest) :
    step s = handle e { s with schedule := rest } := by
  have h : s.takeEvent = (e, { s with schedule := rest }) := by unfold State.takeEvent; rw [hs]
  have hstep : step s = handle s.takeEvent.1 s.takeEvent.2 := by unfold step; rw [hf]
  rw [hstep, h]

/-- The block's turn at a micro-step of an operation. -/
theorem blockTurn_micro {s : State} {m : MicroStep} (hop : s.mpc.op ≠ .none) (hm : s.currentMicroStep = some m) :
    blockTurn s = performMicroStep m s := by
  unfold blockTurn
  rw [if_neg hop, hm]

/-- The block's turn between operations, with a call to start. -/
theorem blockTurn_call {s : State} {c : HostCall} {rest : List HostCall} (hop : s.mpc.op = .none)
    (hc : s.calls = c :: rest) : blockTurn s = startCall c { s with calls := rest } := by
  unfold blockTurn
  rw [if_pos hop, hc]

/-- A step on the block's turn, in an operation, is the micro-step MPC points at (R71). -/
theorem step_micro {s : State} {rest : List Event} {m : MicroStep} (hf : s.fault = none) (hs : s.schedule = .run :: rest)
    (hop : s.mpc.op ≠ .none) (hm : (sequence s.config s.mpc.op)[s.mpc.idx]? = some m) :
    step s = performMicroStep m { s with schedule := rest } := by
  rw [step_scheduled hf hs]
  exact blockTurn_micro (s := { s with schedule := rest }) hop hm

/-- A step on the block's turn, between operations, starts the host's next call (R112). -/
theorem step_call {s : State} {rest : List Event} {c : HostCall} {more : List HostCall} (hf : s.fault = none)
    (hs : s.schedule = .run :: rest) (hop : s.mpc.op = .none) (hc : s.calls = c :: more) :
    step s = startCall c { s with schedule := rest, calls := more } := by
  rw [step_scheduled hf hs]
  exact blockTurn_call (s := { s with schedule := rest }) hop hc

/-- Taking an event changes only the schedule, or, with nothing scripted, the time and the draws. -/
theorem takeEvent_eq (s : State) :
    (∃ e rest, s.schedule = e :: rest ∧ s.takeEvent = (e, { s with schedule := rest })) ∨
    (s.schedule = [] ∧
      s.takeEvent = (.run, { s with now := s.now + Config.freeAdvance s.draws, draws := s.draws + 1 })) := by
  unfold State.takeEvent
  cases h : s.schedule with
  | nil => exact .inr ⟨rfl, by simp⟩
  | cons e rest => exact .inl ⟨e, rest, rfl, by simp⟩

/-- The block's turn, when it gives a next state: idle, a call of the host, or a micro-step. -/
theorem blockTurn_next {s t : State} (h : blockTurn s = .next t) :
    (s.mpc.op = .none ∧ s.calls = [] ∧ t = s) ∨
    (s.mpc.op = .none ∧ ∃ c rest, s.calls = c :: rest ∧ startCall c { s with calls := rest } = .next t) ∨
    (s.mpc.op ≠ .none ∧ ∃ m, s.currentMicroStep = some m ∧ performMicroStep m s = .next t) := by
  unfold blockTurn at h
  split_ifs at h with hop
  · cases hc : s.calls with
    | nil => rw [hc] at h; cases h; exact .inl ⟨hop, rfl, rfl⟩
    | cons c rest => rw [hc] at h; exact .inr (.inl ⟨hop, c, rest, rfl, h⟩)
  · cases hm : s.currentMicroStep with
    | none => rw [hm] at h; cases h
    | some m => rw [hm] at h; exact .inr (.inr ⟨hop, m, rfl, h⟩)

end Sys2Proof.Machine
end

