-- ==== Sys2Proof/Laws/PerInstr.lean ====
section
/-!
SUPPORT. Statements made of every instruction, one lemma per constructor: its opcode and response length are those of its row of
the opcode map (30_encoding.md R58), which no other row matches.
-/

namespace Sys2Proof.Laws.OpcodeRow

/-- The instruction's byte matches exactly one row of the opcode map, its own, which gives its response length. -/
def Statement (i : Instr) : Prop :=
  ((opcodeMap.filter fun r => r.matchesByte i.opcode).map fun r => (r.mnemonic, r.responseBytes))
    = [(i.mnemonic, i.responseLength)]

theorem reset : Statement .reset := by unfold Statement; decide
theorem convertD1Osr256 : Statement .convertD1Osr256 := by unfold Statement; decide
theorem convertD1Osr512 : Statement .convertD1Osr512 := by unfold Statement; decide
theorem convertD1Osr1024 : Statement .convertD1Osr1024 := by unfold Statement; decide
theorem convertD1Osr2048 : Statement .convertD1Osr2048 := by unfold Statement; decide
theorem convertD1Osr4096 : Statement .convertD1Osr4096 := by unfold Statement; decide
theorem convertD2Osr256 : Statement .convertD2Osr256 := by unfold Statement; decide
theorem convertD2Osr512 : Statement .convertD2Osr512 := by unfold Statement; decide
theorem convertD2Osr1024 : Statement .convertD2Osr1024 := by unfold Statement; decide
theorem convertD2Osr2048 : Statement .convertD2Osr2048 := by unfold Statement; decide
theorem convertD2Osr4096 : Statement .convertD2Osr4096 := by unfold Statement; decide
theorem adcRead : Statement .adcRead := by unfold Statement; decide
theorem promRead (i : U3) : Statement (.promRead i) := by
  unfold Statement
  revert i
  decide

end Sys2Proof.Laws.OpcodeRow
end

