-- ==== Sys2Proof/Laws/Step.lean ====
section
/-!
SUPPORT. What one step can do, said once (41_sequencer.md R71): every case of a step that gives a next state. The rules about the whole
machine are read off these cases.
-/

namespace Sys2Proof.Machine

/-- `u` is `s` with an event, or an event and a call, taken: no register, no log and nothing of the sensor differs, and time has not
gone back. -/
structure EventTaken (s u : State) : Prop where
  cal : u.cal = s.cal
  calValid : u.calValid = s.calValid
  stage : u.stage = s.stage
  d1 : u.d1 = s.d1
  d2 : u.d2 = s.d2
  ctl : u.ctl = s.ctl
  readyAt : u.readyAt = s.readyAt
  last : u.last = s.last
  fault : u.fault = s.fault
  mpc : u.mpc = s.mpc
  config : u.config = s.config
  prom : u.prom = s.prom
  activity : u.activity = s.activity
  now : s.now ≤ u.now
  sent : u.sent = s.sent
  returned : u.returned = s.returned
  schedule : ∀ e, e ∈ u.schedule → e ∈ s.schedule

/-- What happens once the event is taken: time passes, LAST is read, the block idles, a single command runs, the host's call starts
or is answered, or the micro-step MPC points at is performed. -/
inductive Happens (s u t : State) : Prop where
  | time (d : Nat) (eq : t = u.elapse d)
  | read (r : Readout) (eq : t = u.readOut r)
  | idle (op : s.mpc.op = .none) (eq : t = u)
  | single (b : Byte) (mem : Event.command b ∈ s.schedule) (i : Instr) (run : exec i u = .next t)
      (calls : u.calls = s.calls)
  | start (op : s.mpc.op = .none) (o : OpName) (real : o ≠ .none) (eq : t = u.beginOp o)
  | answer (op : s.mpc.op = .none) (r : Result) (eq : t = u.giveBack .compensate r)
  | micro (op : s.mpc.op ≠ .none) (m : MicroStep) (cur : s.currentMicroStep = some m) (run : performMicroStep m u = .next t)
      (calls : u.calls = s.calls)

/-- The block's turn, seen from the state before the event. -/
theorem blockTurn_happens {s u t : State} (hb : EventTaken s u) (hc : u.calls = s.calls) (h : blockTurn u = .next t) :
    ∃ v, EventTaken s v ∧ Happens s v t := by
  rcases blockTurn_next h with ⟨hop, -, ht⟩ | ⟨hop, c, rest, -, hstart⟩ | ⟨hop, m, hm, hrun⟩
  · exact ⟨u, hb, .idle (hb.mpc ▸ hop) ht⟩
  · have hv : EventTaken s { u with calls := rest } := { hb with }
    have hop' : s.mpc.op = .none := hb.mpc ▸ hop
    refine ⟨_, hv, ?_⟩
    match c, hstart with
    | .initialise, hstart => cases hstart; exact .start hop' _ (by decide) rfl
    | .reset, hstart => cases hstart; exact .start hop' _ (by decide) rfl
    | .readCycle, hstart => cases hstart; exact .start hop' _ (by decide) rfl
    | .read r, hstart => cases hstart; exact .read r rfl
    | .compensate d1 d2, hstart =>
      simp only [startCall, compensateCall] at hstart
      split_ifs at hstart
      · cases hstart; exact .answer hop' _ rfl
      · split at hstart
        · cases hstart; exact .answer hop' _ rfl
        · cases hstart
  · refine ⟨u, hb, .micro (hb.mpc ▸ hop) m ?_ hrun hc⟩
    rw [← hm, State.currentMicroStep, State.currentMicroStep, hb.config, hb.mpc]

/-- Every case of a step that gives a next state. -/
theorem step_cases {s t : State} (h : step s = .next t) :
    s.fault = none ∧ ∃ u, EventTaken s u ∧ Happens s u t := by
  obtain ⟨hf, hh⟩ := step_next h
  refine ⟨hf, ?_⟩
  rcases takeEvent_eq s with ⟨e, rest, hs, he⟩ | ⟨hs, he⟩
  · rw [he] at hh
    have hb : EventTaken s { s with schedule := rest } :=
      ⟨rfl, rfl, rfl, rfl, rfl, rfl, rfl, rfl, rfl, rfl, rfl, rfl, rfl, le_refl _, rfl, rfl, fun e he => by simp [hs, he]⟩
    cases e with
    | tick d => cases hh; exact ⟨_, hb, .time d rfl⟩
    | reader r => cases hh; exact ⟨_, hb, .read r rfl⟩
    | run => exact blockTurn_happens hb rfl hh
    | command b =>
      simp only [handle, sendCommand] at hh
      split at hh
      · exact ⟨_, hb, .single b (by simp [hs]) _ hh rfl⟩
      · cases hh
  · rw [he] at hh
    have hb : EventTaken s { s with now := s.now + Config.freeAdvance s.draws, draws := s.draws + 1 } :=
      ⟨rfl, rfl, rfl, rfl, rfl, rfl, rfl, rfl, rfl, rfl, rfl, rfl, rfl, Nat.le_add_right _ _, rfl, rfl, fun e he => he⟩
    exact blockTurn_happens hb rfl hh

/-- A command micro-step whose command gives a next state (R71). -/
theorem performMicroStep_command {i : Instr} {s u : State} (h : exec i s = .next u) :
    performMicroStep (.command i) s = .next u.advanceUnlessEnded := by
  simp only [performMicroStep, h, advanced]

/-- LOAD_COMMIT as a micro-step. -/
theorem performMicroStep_loadCommit {s u : State} (h : loadCommit s = .next u) :
    performMicroStep .loadCommit s = .next u.advanceUnlessEnded := by
  simp only [performMicroStep, h, advanced]

/-- COMPENSATE as a micro-step. -/
theorem performMicroStep_compensate {s u : State} (h : compensateStep s = .next u) :
    performMicroStep .compensate s = .next u.advanceUnlessEnded := by
  simp only [performMicroStep, h, advanced]

/-- After a micro-step that neither raised a fault nor ended its operation, MPC advances. -/
theorem advanceUnlessEnded_running {s : State} (hf : s.fault = none) (hop : s.mpc.op ≠ .none) :
    s.advanceUnlessEnded = s.advance := if_pos ⟨hf, hop⟩

/-- A state whose operation has ended stays as it is. -/
theorem advanceUnlessEnded_ended {s : State} (hop : s.mpc.op = .none) : s.advanceUnlessEnded = s :=
  if_neg fun h => h.2 hop

/-- Every case of a micro-step that gives a next state. -/
theorem performMicroStep_next {m : MicroStep} {s t : State} (h : performMicroStep m s = .next t) :
    (∃ i u, m = .command i ∧ exec i s = .next u ∧ t = u.advanceUnlessEnded) ∨
    (m = .wait ∧ t = s.waitStep) ∨
    (m = .beginCycle ∧ t = s.beginCycle.advanceUnlessEnded) ∨
    (m = .loadBegin ∧ t = s.loadBegin.advance) ∨
    (m = .loadCommit ∧ ∃ u, loadCommit s = .next u ∧ t = u.advanceUnlessEnded) ∨
    (m = .compensate ∧ ∃ u, compensateStep s = .next u ∧ t = u.advanceUnlessEnded) := by
  cases m with
  | command i => obtain ⟨u, hu, ht⟩ := advanced_next h; exact .inl ⟨i, u, rfl, hu, ht⟩
  | wait => cases h; exact .inr (.inl ⟨rfl, rfl⟩)
  | beginCycle => cases h; exact .inr (.inr (.inl ⟨rfl, rfl⟩))
  | loadBegin => cases h; exact .inr (.inr (.inr (.inl ⟨rfl, rfl⟩)))
  | loadCommit => obtain ⟨u, hu, ht⟩ := advanced_next h; exact .inr (.inr (.inr (.inr (.inl ⟨rfl, u, hu, ht⟩))))
  | compensate => obtain ⟨u, hu, ht⟩ := advanced_next h; exact .inr (.inr (.inr (.inr (.inr ⟨rfl, u, hu, ht⟩))))

/-- Which micro-step MPC points at, for each operation and index (R114, R115, R116). -/
theorem currentMicroStep_cases {s : State} {m : MicroStep} (h : s.currentMicroStep = some m) :
    (s.mpc.op = .initialise ∧
      ((s.mpc.idx = 0 ∧ m = .loadBegin) ∨ (s.mpc.idx = 1 ∧ m = .command .reset) ∨ (s.mpc.idx = 2 ∧ m = .wait) ∨
       (∃ k : U3, s.mpc.idx = k.toNat + 3 ∧ m = .command (.promRead k)) ∨ (s.mpc.idx = 11 ∧ m = .loadCommit))) ∨
    (s.mpc.op = .reset ∧ ((s.mpc.idx = 0 ∧ m = .command .reset) ∨ (s.mpc.idx = 1 ∧ m = .wait))) ∨
    (s.mpc.op = .readCycle ∧
      ((s.mpc.idx = 0 ∧ m = .beginCycle) ∨ (s.mpc.idx = 1 ∧ m = .command (Instr.convert .d1 s.config.osrD1)) ∨
       (s.mpc.idx = 2 ∧ m = .wait) ∨ (s.mpc.idx = 3 ∧ m = .command .adcRead) ∨
       (s.mpc.idx = 4 ∧ m = .command (Instr.convert .d2 s.config.osrD2)) ∨ (s.mpc.idx = 5 ∧ m = .wait) ∨
       (s.mpc.idx = 6 ∧ m = .command .adcRead) ∨ (s.mpc.idx = 7 ∧ m = .compensate))) := by
  unfold State.currentMicroStep at h
  generalize s.mpc.idx = n at h ⊢
  cases hop : s.mpc.op with
  | none => simp [hop, sequence] at h
  | initialise =>
    refine .inl ⟨rfl, ?_⟩
    rw [hop] at h
    match n, h with
    | 0, h => cases h; simp
    | 1, h => cases h; simp
    | 2, h => cases h; simp
    | 3, h => cases h; exact .inr (.inr (.inr (.inl ⟨0#3, rfl, rfl⟩)))
    | 4, h => cases h; exact .inr (.inr (.inr (.inl ⟨1#3, rfl, rfl⟩)))
    | 5, h => cases h; exact .inr (.inr (.inr (.inl ⟨2#3, rfl, rfl⟩)))
    | 6, h => cases h; exact .inr (.inr (.inr (.inl ⟨3#3, rfl, rfl⟩)))
    | 7, h => cases h; exact .inr (.inr (.inr (.inl ⟨4#3, rfl, rfl⟩)))
    | 8, h => cases h; exact .inr (.inr (.inr (.inl ⟨5#3, rfl, rfl⟩)))
    | 9, h => cases h; exact .inr (.inr (.inr (.inl ⟨6#3, rfl, rfl⟩)))
    | 10, h => cases h; exact .inr (.inr (.inr (.inl ⟨7#3, rfl, rfl⟩)))
    | 11, h => cases h; simp
    | n + 12, h => simp [sequence] at h
  | reset =>
    refine .inr (.inl ⟨rfl, ?_⟩)
    rw [hop] at h
    match n, h with
    | 0, h => cases h; simp
    | 1, h => cases h; simp
    | n + 2, h => simp [sequence] at h
  | readCycle =>
    refine .inr (.inr ⟨rfl, ?_⟩)
    rw [hop] at h
    match n, h with
    | 0, h => cases h; simp
    | 1, h => cases h; simp
    | 2, h => cases h; simp
    | 3, h => cases h; simp
    | 4, h => cases h; simp
    | 5, h => cases h; simp
    | 6, h => cases h; simp
    | 7, h => cases h; simp
    | n + 8, h => simp [sequence] at h

end Sys2Proof.Machine
end

