-- ==== Sys2Proof/Tests/Slice0.lean ====
section
/-!
SUPPORT. The model's own tests: the checks of WellFormed on ill-formed terms, command words written out bit by bit from
30_encoding.md, single steps against the vectors of 95_test_vectors.md, and for every statement with hypotheses a concrete state that
meets them.
-/

namespace Sys2Proof.Tests

open Sys2Proof.Machine Sys2Proof.Safety

/-! ## Helpers -/

/-- The state an outcome gives, if it gives one. -/
def after : Host.Outcome State Fault Refusal → Option State
  | .next s => some s
  | .fault _ => none
  | .refused _ => none

/-- The refusal of an outcome, if it is one. -/
def refusal : Host.Outcome State Fault Refusal → Option Refusal
  | .refused r => some r
  | .next _ => none
  | .fault _ => none

/-- The fault of an outcome, if it is one. -/
def stopped : Host.Outcome State Fault Refusal → Option Fault
  | .fault r => some r
  | .next _ => none
  | .refused _ => none

/-- The illustrative timing of 70_reset_and_hazards.md R146, for tests only. -/
def timing : Timing := ⟨600, 1170, 2280, 4540, 9040, 2800⟩

/-- OSR 4096 for pressure and 1024 for temperature. -/
def config : Configuration := ⟨.osr4096, .osr1024, 0, .dedicatedLine, false, timing⟩

/-- The PROM of vector V1. -/
def words : Vector U16 8 := #v[0, 40000, 36000, 23000, 23000, 1500, 900, 0]

/-- The calibration of vector V1, loaded. -/
def loaded : Cells :=
  #v[some 0, some 40000, some 36000, some 23000, some 23000, some 1500, some 900, some 0]

/-- A block between operations, settled, at time 10000, whose next transfer is answered with the sample 0x680000. -/
def idle : State :=
  { State.powerOn config (Memory.ofWords words) 10000 with
    ctl := .idle
    readyAt := 2800
    activity := .quiet
    bus := [.answer 0x55#8 0x680000#24] }

/-- A block waiting for a pressure result that is ready. -/
def pressure : State :=
  { idle with ctl := .pressureConverting, readyAt := 9040, activity := .converting .d1 .osr4096 0 }

/-- A block that has read the pressure result. -/
def pressureRead : State := { pressure with d1 := some 0x680000#24, activity := .quiet }

/-- A block waiting for a temperature result that is ready. -/
def temperature : State :=
  { pressureRead with ctl := .temperatureConverting, activity := .converting .d2 .osr1024 0 }

/-- The state with the block's turn scripted next. -/
def turn (op : OpName) (idx : Nat) (s : State) : State := { s with mpc := ⟨op, idx⟩, schedule := [.run] }

/-- The state with a host call waiting and the block's turn next. -/
def calling (c : HostCall) (s : State) : State := { s with calls := [c], schedule := [.run] }

/-! ## WellFormed on ill-formed terms -/

/-- 30_encoding.md R59: reserved bytes, one of each pattern of 95_test_vectors.md 2.1. -/
theorem test_reserved_bytes_are_no_commands :
    [0x01#8, 0x1F#8, 0x41#8, 0x4A#8, 0x4E#8, 0x5A#8, 0x60#8, 0xA1#8, 0xAF#8, 0xB0#8, 0xFF#8].all
      (fun b => !isCommandByte b) = true := by decide

/-- Every row of the opcode map is checked by a byte that fails its mask test only in one bit. -/
theorem test_row_refuses_other_byte :
    OpcodeRow.matchesByte ⟨"RESET", 0xFF#8, 0x1E#8, 1⟩ 0x1F#8 = false ∧
    OpcodeRow.matchesByte ⟨"PROM_READ", 0xF1#8, 0xA0#8, 3⟩ 0xA3#8 = false := by decide

/-- 41_sequencer.md R91: T_CONV must grow strictly, at each of its four places. -/
theorem test_timing_not_increasing_is_ill_formed :
    Timing.wellFormed ⟨600, 600, 2280, 4540, 9040, 2800⟩ = false ∧
    Timing.wellFormed ⟨600, 2280, 1170, 4540, 9040, 2800⟩ = false ∧
    Timing.wellFormed ⟨600, 1170, 4540, 2280, 9040, 2800⟩ = false ∧
    Timing.wellFormed ⟨600, 1170, 2280, 9040, 4540, 2800⟩ = false := by decide

/-- 41_sequencer.md R92: T_RESET is positive. -/
theorem test_zero_reset_delay_is_ill_formed : Timing.wellFormed ⟨600, 1170, 2280, 4540, 9040, 0⟩ = false := by decide

/-- 10_state.md R29: STRICT_CRC is false in this hardware. -/
theorem test_strict_configuration_is_ill_formed :
    Configuration.wellFormed { config with strictCrc := true } = false ∧ Configuration.wellFormed config = true := by decide

/-- 10_state.md R29: OSRs outside the five. -/
theorem test_illegal_osr : legalOsr 0 = false ∧ legalOsr 255 = false ∧ legalOsr 8192 = false := by decide

/-- The index of a PROM_READ cannot leave its range: every instruction is well-formed (R56, R57). -/
theorem test_every_instruction_is_well_formed (i : Instr) : i.wellFormed = true := by
  cases i <;> simp [Instr.wellFormed]
  omega

/-- A memory out of order, outside the PROM, or listing what is unlisted, is not canonical. -/
theorem test_memory_not_canonical :
    Memory.wf [(3, 1#8), (2, 1#8)] = false ∧ Memory.wf [(16, 1#8)] = false ∧ Memory.wf [(1, 0#8)] = false := by decide

/-! ## Words written out from the encoding tables -/

/-- F-FIX: `0001 1110` is RESET (R54). -/
theorem test_decode_reset : decode [0b00011110#8] = .ok (.reset, []) := rfl

/-- F-FIX: `0000 0000` is ADC_READ (R54). -/
theorem test_decode_adcRead : decode [0b00000000#8] = .ok (.adcRead, []) := rfl

/-- F-CONV, ch = 0: `010 0 kkk 0` for k = 0 to 4 (R54, R55). -/
theorem test_decode_convertD1 :
    decode [0b01000000#8] = .ok (.convertD1Osr256, []) ∧ decode [0b01000010#8] = .ok (.convertD1Osr512, []) ∧
    decode [0b01000100#8] = .ok (.convertD1Osr1024, []) ∧ decode [0b01000110#8] = .ok (.convertD1Osr2048, []) ∧
    decode [0b01001000#8] = .ok (.convertD1Osr4096, []) := ⟨rfl, rfl, rfl, rfl, rfl⟩

/-- F-CONV, ch = 1: `010 1 kkk 0` for k = 0 to 4 (R54, R55). -/
theorem test_decode_convertD2 :
    decode [0b01010000#8] = .ok (.convertD2Osr256, []) ∧ decode [0b01010010#8] = .ok (.convertD2Osr512, []) ∧
    decode [0b01010100#8] = .ok (.convertD2Osr1024, []) ∧ decode [0b01010110#8] = .ok (.convertD2Osr2048, []) ∧
    decode [0b01011000#8] = .ok (.convertD2Osr4096, []) := ⟨rfl, rfl, rfl, rfl, rfl⟩

/-- F-PROM: `1010 iii 0` (R54, R56). -/
theorem test_decode_promRead :
    decode [0b10100000#8] = .ok (.promRead 0#3, []) ∧ decode [0b10101010#8] = .ok (.promRead 5#3, []) ∧
    decode [0b10101110#8] = .ok (.promRead 7#3, []) := ⟨rfl, rfl, rfl⟩

/-- Reserved bytes next to commands, and no byte at all. -/
theorem test_decode_refuses :
    decode [0x4A#8] = .error (.illegalCommand 0x4A#8) ∧ decode [0x5E#8] = .error (.illegalCommand 0x5E#8) ∧
    decode [0xA1#8] = .error (.illegalCommand 0xA1#8) ∧ decode [] = .error .noByte := ⟨rfl, rfl, rfl, rfl⟩

/-- The host's word for PROM_READ 6. -/
theorem test_decodeTableWord : decodeTableWord 8 0xAC = some (.promRead 6#3) := rfl

/-! ## Single steps (95_test_vectors.md 2.2 to 2.4) -/

/-- RESET at 5000 from NeedsReset: sends 1E, READY_AT = 7800. -/
theorem test_reset :
    (after (exec .reset { idle with ctl := .needsReset, now := 5000 })).map
      (fun t => (t.ctl, t.readyAt, t.sent)) = some (.idle, 7800, [0x1E#8]) := by decide

/-- RESET during a conversion drops it: READY_AT = 22800. -/
theorem test_reset_drops_conversion :
    (after (exec .reset { pressure with now := 20000 })).map (fun t => (t.ctl, t.readyAt, t.activity))
      = some (.idle, 22800, .settling 20000) := by decide

/-- CONVERT D1 at 10000: READY_AT = 10600, 11170, 12280, 14540, 19040. -/
theorem test_convertD1_ready_times :
    [Instr.convertD1Osr256, .convertD1Osr512, .convertD1Osr1024, .convertD1Osr2048, .convertD1Osr4096].map
      (fun i => (after (exec i idle)).map fun t => (t.readyAt, t.ctl))
      = [10600, 11170, 12280, 14540, 19040].map fun n => some (n, Ctl.pressureConverting) := by decide

/-- CONVERT D2 at 19040: READY_AT = 19640, 20210, 21320, 23580, 28080. -/
theorem test_convertD2_ready_times :
    [Instr.convertD2Osr256, .convertD2Osr512, .convertD2Osr1024, .convertD2Osr2048, .convertD2Osr4096].map
      (fun i => (after (exec i { pressureRead with now := 19040 })).map fun t => (t.readyAt, t.ctl))
      = [19640, 20210, 21320, 23580, 28080].map fun n => some (n, Ctl.temperatureConverting) := by decide

/-- A second CONVERT D1 before the read, and CONVERT D2 before D1 is read, are sequence violations. -/
theorem test_convert_guards :
    (after (exec .convertD1Osr256 pressure)).map (fun t => (t.fault, t.sent)) = some (some .sequenceViolation, []) ∧
    (after (exec .convertD2Osr256 pressure)).map (fun t => (t.fault, t.sent)) = some (some .sequenceViolation, []) := by
  decide

/-- ADC_READ [55 68 00 00] fills D1 = 6815744 in PressureConverting and D2 in TemperatureConverting. -/
theorem test_adcRead :
    (after (exec .adcRead pressure)).map (fun t => (t.d1, t.d2, t.ctl)) = some (some 6815744#24, none, .pressureConverting) ∧
    (after (exec .adcRead temperature)).map (fun t => (t.d2, t.ctl)) = some (some 6815744#24, .done) := by decide

/-- ADC_READ at 19039 with READY_AT = 19040 is premature; with the wrong CTL too the CTL fault wins. -/
theorem test_adcRead_guards :
    (after (exec .adcRead { pressure with readyAt := 19040, now := 19039 })).map (fun t => (t.fault, t.sent))
      = some (some .prematureRead, []) ∧
    (after (exec .adcRead { idle with readyAt := 9000, now := 100 })).map (·.fault) = some (some .sequenceViolation) := by
  decide

/-- PROM_READ 3 stages 23000; PROM_READ 1 with byte 0 = 0x55 stages 40000. -/
theorem test_promRead :
    (after (exec (.promRead 3#3) idle)).map (fun t => (t.stage[3], t.stage[4], t.sent)) = some (some 23000#16, none, [0xA6#8]) ∧
    (after (exec (.promRead 1#3) idle)).map (fun t => t.stage[1]) = some (some 40000#16) := by decide

/-- A PROM_READ that gets 4 bytes fails: CTL = NeedsReset, STAGE[2] unchanged, and the error reaches the caller. -/
theorem test_promRead_wrong_length :
    (after (exec (.promRead 2#3) { idle with mpc := ⟨.initialise, 5⟩, bus := [.wrongLength [0, 0x8C, 0xA0, 0]] })).map
      (fun t => (t.ctl, t.stage[2], t.mpc, t.returned))
      = some (.needsReset, none, ⟨.none, 0⟩, [⟨.initialise, .err .transportFailure⟩]) := by decide

/-- A single command at power-on is the step after it is placed: RESET runs, CONVERT raises its fault (NeedsReset). -/
theorem test_placed_commands_run :
    (after (step (({ idle with ctl := .needsReset } : State).withFetchWord 8 0x1E))).map (·.ctl) = some .idle ∧
    (after (step (State.reset.withFetchWord 8 0x40))).map (·.fault) = some (some .sequenceViolation) := by decide

/-- A reserved byte is refused by name. -/
theorem test_reserved_byte_refused :
    refusal (step (idle.withFetchWord 8 0x4A)) = some (.illegalCommand 0x4A#8) := by decide

/-- FAULT = PrematureRead: no step. -/
theorem test_faulted_block_stops :
    stopped (step { idle with fault := some .prematureRead, schedule := [.tick 1] }) = some (.stopped .prematureRead) := by
  decide

/-! ## Micro-steps and host operations (95_test_vectors.md 2.3, 2.4, 2.7) -/

/-- LOAD_BEGIN clears the calibration and leaves CTL (R64). -/
theorem test_loadBegin :
    (after (step (turn .initialise 0 { idle with cal := loaded, calValid := true, ctl := .done }))).map
      (fun t => (t.calValid, t.cal[1], t.ctl, t.mpc)) = some (false, none, .done, ⟨.initialise, 1⟩) := by decide

/-- LOAD_COMMIT commits the staged words (R68). -/
theorem test_loadCommit :
    (after (step (turn .initialise 11 { idle with stage := loaded }))).map (fun t => (t.calValid, t.cal, t.mpc, t.returned))
      = some (true, loaded, ⟨.none, 0⟩, [⟨.initialise, .ok⟩]) := by decide

/-- WAIT holds at 9139 and completes at 9140 (R89). -/
theorem test_wait :
    (after (step (turn .readCycle 2 { pressure with readyAt := 9140, now := 9139 }))).map (·.mpc) = some ⟨.readCycle, 2⟩ ∧
    (after (step (turn .readCycle 2 { pressure with readyAt := 9140, now := 9140 }))).map (·.mpc) = some ⟨.readCycle, 3⟩ := by
  decide

/-- BEGIN_CYCLE: NotCalibrated is checked before NeedsReset (R131). -/
theorem test_beginCycle_priority :
    (after (step (turn .readCycle 0 { idle with ctl := .needsReset }))).map (·.returned)
      = some [⟨.readCycle, .err .notCalibrated⟩] := by decide

/-- COMPENSATE writes LAST = (2858, 170857) (R111, V1). -/
theorem test_compensate_step :
    (after (step (turn .readCycle 7
      { idle with cal := loaded, ctl := .done, d1 := some 6815744, d2 := some 8387072 }))).map (fun t => (t.last, t.ctl, t.mpc))
      = some (some ⟨2858, 170857⟩, .done, ⟨.none, 0⟩) := by decide

/-- readCycle sends its CONVERT at the configured OSR (R116). -/
theorem test_readCycle_convert :
    (after (step (turn .readCycle 1 { idle with calValid := true }))).map (fun t => (t.sent, t.mpc))
      = some ([0x48#8], ⟨.readCycle, 2⟩) := by decide

/-- compensate(0, 1536) with C = [0,1,2,3,4,5,6,0] returns Ok(2000, -8) and does not write LAST (R117, W2, W3). -/
theorem test_compensate_call :
    (after (step (calling (.compensate 0 1536)
      { idle with cal := #v[some 0, some 1, some 2, some 3, some 4, some 5, some 6, some 0], calValid := true }))).map
        (fun t => (t.returned, t.last)) = some ([⟨.compensate, .okReading ⟨2000, BitVec.ofInt 64 (-8)⟩⟩], none) := by decide

/-- At power-on the readers return Err(NoReading) (R118, R119). -/
theorem test_no_reading :
    (after (step (calling (.read .lastPressure) idle))).map (·.returned) = some [⟨.lastPressure, .err .noReading⟩] := by decide

/-- A construction with OSR 300 is refused; with 256 and 4096 it is not (R29, R126). -/
theorem test_construct :
    refusal (construct 300 4096 0 .dedicatedLine timing words 0) = some .badConfiguration ∧
    (after (construct 256 4096 0 .dedicatedLine timing words 0)).map (fun t => (t.config.osrD1, t.prom.word 5#3, t.ctl))
      = some (.osr256, 1500, .needsReset) := by decide

/-! ## Compensation (95_test_vectors.md 2.5, 2.6) -/

/-- V1, V5: the end-to-end scenario, and the corner with the smallest TEMP, where floor would differ. -/
theorem test_comp_V1_V5 :
    comp ⟨40000, 36000, 23000, 23000, 1500, 900⟩ 6815744 8387072 = ⟨2858, 170857⟩ ∧
    comp ⟨65535, 65535, 65535, 65535, 65535, 65535⟩ 16777215 0
      = ⟨BitVec.ofInt 64 (-129068), BitVec.ofInt 64 (-786395)⟩ := by decide

/-- V8, V16: truncation of a negative dividend in TEMP and in P. -/
theorem test_comp_V8_V16 :
    comp ⟨0, 0, 0, 0, 100, 65535⟩ 0 25400 = ⟨1999, 0⟩ ∧
    comp ⟨1, 2, 3, 4, 5, 6⟩ 1000000 1536 = ⟨2000, BitVec.ofInt 64 (-7)⟩ := by decide

/-- V17: the two divisions of P are not merged. -/
theorem test_comp_V17 :
    comp ⟨4729, 28399, 6336, 41761, 23189, 58373⟩ 2746777 5745957 = ⟨675, BitVec.ofInt 64 (-97793)⟩ := by decide

/-- V9, V10: OFF = -1 and SENS = 0 on a negative dividend. -/
theorem test_terms_V9_V10 :
    off64 ⟨0, 0, 0, 100, 10, 0⟩ (dT64 ⟨0, 0, 0, 100, 10, 0⟩ 2559) = BitVec.ofInt 64 (-1) ∧
    sens64 ⟨0, 0, 100, 0, 10, 0⟩ (dT64 ⟨0, 0, 100, 0, 10, 0⟩ 2559) = 0 := by decide

/-- The arithmetic laws of R107. -/
theorem test_tdiv :
    tdiv64 (BitVec.ofInt 64 (-1)) 6 = 0 ∧ tdiv64 (BitVec.ofInt 64 (-65)) 6 = BitVec.ofInt 64 (-1) ∧
    tdiv64 (BitVec.ofInt 64 (-262160)) 15 = BitVec.ofInt 64 (-8) ∧ tdiv (-65) 64 = -1 := by decide

/-! ## Witnesses: each statement's hypotheses are met together by a concrete state -/

theorem test_witness_DecoderFollowsOpcodeMap :
    (⟨"ADC_READ", 0xFF#8, 0x00#8, 4⟩ : OpcodeRow) ∈ opcodeMap ∧ decodeByte 0x00#8 = .ok .adcRead ∧
    Instr.adcRead.mnemonic = "ADC_READ" := ⟨by decide, rfl, rfl⟩

theorem test_witness_ReservedBytesRefused :
    (idle.withFetchWord 8 0x4A).fault = none ∧ (idle.withFetchWord 8 0x4A).schedule = [.command 0x4A#8] ∧
    isCommandByte 0x4A#8 = false ∧ (idle.withFetchWord 8 0xA0).schedule = [.command 0xA0#8] ∧
    isCommandByte 0xA0#8 = true := by decide

theorem test_witness_ConstructionChecksOsr :
    legalOsr 300 = false ∧ legalOsr 256 = true ∧ legalOsr 4096 = true := by decide

theorem test_witness_FaultedBlockTakesNoStep :
    ({ idle with fault := some .sequenceViolation } : State).fault = some .sequenceViolation := rfl

theorem test_witness_StepRunsSingleCommand :
    ({ idle with schedule := [.command 0x1E#8] } : State).fault = none ∧ decode [0x1E#8] = .ok (.reset, []) := ⟨rfl, rfl⟩

theorem test_witness_PlacedWordIsRun : idle.fault = none ∧ decodeTableWord 8 0x58 = some .convertD2Osr4096 := ⟨rfl, rfl⟩

theorem test_witness_StepRunsMicroStepCommand :
    let s := turn .readCycle 3 pressure
    s.fault = none ∧ s.schedule = [.run] ∧ s.mpc.op ≠ .none ∧
      (sequence s.config s.mpc.op)[s.mpc.idx]? = some (.command .adcRead) := by decide

/-- The three rows of the guard table: CTL fails, only the time fails (both fault kinds), both hold. -/
theorem test_witness_GuardTable :
    (idle.fault = none ∧ ¬ ctlCondition .adcRead idle) ∧
    (ctlCondition .adcRead { pressure with now := 9039 } ∧ ¬ timeCondition .adcRead { pressure with now := 9039 }) ∧
    (ctlCondition .convertD1Osr256 { idle with now := 2799 } ∧ ¬ timeCondition .convertD1Osr256 { idle with now := 2799 }) ∧
    (ctlCondition .adcRead { pressure with now := 9040 } ∧ timeCondition .adcRead { pressure with now := 9040 }) := by
  refine ⟨⟨rfl, ?_⟩, ⟨?_, ?_⟩, ⟨?_, ?_⟩, ?_, ?_⟩ <;> simp [ctlCondition, timeCondition, idle, pressure, State.powerOn]

theorem test_witness_TransportFailureEffects :
    ({ idle with bus := [.fail] } : State).nextAnswer = .fail ∧
    ({ idle with bus := [.wrongLength [0, 0]] } : State).nextAnswer = .wrongLength [0, 0] ∧
    idle.fault = none ∧ ctlCondition (.promRead 0#3) idle ∧ timeCondition (.promRead 0#3) idle :=
  ⟨rfl, rfl, rfl, rfl, .inr (by decide)⟩

theorem test_witness_ResponseHasItsLength :
    idle.response .adcRead = some [0x55#8, 0x68#8, 0#8, 0#8] ∧
    ({ idle with bus := [.wrongLength [1, 2, 3, 4]] } : State).response .adcRead = none := by decide

theorem test_witness_ResetCommand : idle.fault = none ∧ idle.nextAnswer = .answer 0x55#8 0x680000#24 := ⟨rfl, rfl⟩

/-- The time condition is met at its boundary `Now() = READY_AT`. -/
theorem test_witness_ConvertD1Commands :
    let s : State := { idle with now := 2800 }
    s.fault = none ∧ s.ctl = .idle ∧ s.readyAt ≤ s.now ∧ s.nextAnswer = .answer 0x55#8 0x680000#24 := by decide

theorem test_witness_ConvertD2Commands :
    let s : State := { pressureRead with now := 9040 }
    s.fault = none ∧ s.ctl = .pressureConverting ∧ s.d1 ≠ none ∧ s.readyAt ≤ s.now ∧
      s.nextAnswer = .answer 0x55#8 0x680000#24 := by decide

theorem test_witness_AdcReadCommand :
    (pressure.fault = none ∧ pressure.readyAt ≤ pressure.now ∧ pressure.nextAnswer = .answer 0x55#8 0x680000#24 ∧
      pressure.ctl = .pressureConverting ∧ pressure.d1 = none) ∧
    (temperature.fault = none ∧ temperature.readyAt ≤ temperature.now ∧
      temperature.nextAnswer = .answer 0x55#8 0x680000#24 ∧ temperature.ctl = .temperatureConverting ∧
      temperature.d2 = none) := by decide

theorem test_witness_PromReadCommand :
    idle.fault = none ∧ idle.ctl = .idle ∧ idle.readyAt ≤ idle.now ∧ idle.nextAnswer = .answer 0x55#8 0x680000#24 := by decide

/-- A next state of a command on its successful, its failing and its faulting path. -/
theorem test_witness_CommandFrame :
    (after (exec .adcRead pressure)).isSome = true ∧ (after (exec .adcRead { pressure with bus := [.fail] })).isSome = true ∧
    (after (exec .adcRead idle)).isSome = true := by decide

theorem test_witness_LoadBeginClearsCalibration :
    let s := turn .initialise 0 idle
    s.fault = none ∧ s.schedule = [.run] ∧ s.mpc = ⟨.initialise, 0⟩ := by decide

theorem test_witness_LoadCommitReplacesCalibration :
    let s := turn .initialise 11 { idle with stage := loaded }
    s.fault = none ∧ s.schedule = [.run] ∧ s.mpc = ⟨.initialise, 11⟩ ∧ ∀ j : Fin 8, s.stage[j] = some words[j] := by decide

/-- The clauses of WAIT: held and completed one microsecond apart in a cycle, and completed as the last micro-step of reset. -/
theorem test_witness_WaitHoldsUntilReady :
    let s := turn .readCycle 2 { pressure with now := 9039 }
    let s' := turn .readCycle 2 { pressure with now := 9040 }
    let s'' := turn .reset 1 { idle with now := 2800 }
    (s.fault = none ∧ s.schedule = [.run] ∧ s.mpc.op ≠ .none ∧
      (sequence s.config s.mpc.op)[s.mpc.idx]? = some .wait ∧ s.now < s.readyAt) ∧
    (s'.readyAt ≤ s'.now ∧ s'.mpc.idx + 1 < (sequence s'.config s'.mpc.op).length) ∧
    (s''.fault = none ∧ s''.schedule = [.run] ∧ (sequence s''.config s''.mpc.op)[s''.mpc.idx]? = some .wait ∧
      s''.readyAt ≤ s''.now ∧ (sequence s''.config s''.mpc.op).length ≤ s''.mpc.idx + 1 ∧ s''.mpc = ⟨.reset, 1⟩) := by
  decide

/-- The host operation reset returns Ok after its WAIT (R115). -/
theorem test_reset_returns_ok :
    (after (step (turn .reset 1 { idle with now := 2800 }))).map (fun t => (t.mpc, t.returned))
      = some (⟨.none, 0⟩, [⟨.reset, .ok⟩]) := by decide

/-- The four clauses of BEGIN_CYCLE. -/
theorem test_witness_BeginCycleChecks :
    let s := turn .readCycle 0 idle
    (s.fault = none ∧ s.schedule = [.run] ∧ s.mpc = ⟨.readCycle, 0⟩ ∧ s.calValid = false) ∧
    (∃ s : State, s.calValid = true ∧ s.ctl = .needsReset) ∧
    (∃ s : State, s.calValid = true ∧ s.ctl = .pressureConverting) ∧
    (∃ s : State, s.calValid = true ∧ s.ctl = .done) :=
  ⟨by decide, ⟨{ turn .readCycle 0 idle with calValid := true, ctl := .needsReset }, rfl, rfl⟩,
    ⟨{ turn .readCycle 0 pressure with calValid := true }, rfl, rfl⟩,
    ⟨{ turn .readCycle 0 idle with calValid := true, ctl := .done }, rfl, rfl⟩⟩

theorem test_witness_CompensateReplacesLast :
    let s := turn .readCycle 7 { idle with cal := loaded, d1 := some 1, d2 := some 2 }
    s.fault = none ∧ s.schedule = [.run] ∧ s.mpc = ⟨.readCycle, 7⟩ ∧
      coefficients s.cal = some ⟨40000, 36000, 23000, 23000, 1500, 900⟩ ∧ s.d1 = some 1 ∧ s.d2 = some 2 := by decide

/-- A step that moves MPC on, one that ends an operation, and one that starts it. -/
theorem test_witness_MicroStepPointerMoves :
    (after (step (turn .reset 0 idle))).map (·.mpc) = some ⟨.reset, 1⟩ ∧
    (after (step (turn .reset 1 idle))).map (·.mpc) = some ⟨.none, 0⟩ ∧
    (after (step (calling .reset idle))).map (·.mpc) = some ⟨.reset, 0⟩ := by decide

/-- An operation in progress, and each call between operations. -/
theorem test_witness_CallsAreSerialised :
    (after (step (turn .reset 0 idle))).isSome = true ∧ (turn .reset 0 idle).mpc.op ≠ .none ∧
    [HostCall.initialise, .reset, .readCycle].all (fun c => (calling c idle).mpc.op == .none && (calling c idle).calls == [c])
      = true ∧ (turn .none 0 idle).calls = [] := by decide

theorem test_witness_CompensateCall :
    (calling (.compensate 0 1536) idle).calValid = false ∧
    (calling (.compensate 0 1536) { idle with calValid := true, cal := loaded }).calValid = true ∧
    coefficients loaded = some ⟨40000, 36000, 23000, 23000, 1500, 900⟩ := by decide

theorem test_witness_ReadersReturnLast :
    let s : State := { pressure with mpc := ⟨.readCycle, 3⟩, last := some ⟨2858, 170857⟩, schedule := [.reader .lastTemperature] }
    let s' : State := { pressure with schedule := [.reader .lastPressure] }
    s.fault = none ∧ s.schedule = [.reader .lastTemperature] ∧ s'.fault = none ∧
      s'.schedule = [.reader .lastPressure] := by decide

theorem test_witness_HostReadsLast :
    let s := calling (.read .lastTemperature) idle
    s.fault = none ∧ s.schedule = [.run] ∧ s.mpc.op = .none ∧ s.calls = [.read .lastTemperature] := by decide

theorem test_witness_ResultsReachTheHost :
    (turn .reset 1 idle).mpc.op ≠ .none ∧
    (after (step (turn .reset 1 idle))).map (fun t => (t.mpc.op, t.returned)) = some (.none, [⟨.reset, .ok⟩]) := by decide

/-- A dividend for each clause of the division's laws, and the smallest that floor and truncation tell apart. -/
theorem test_witness_DivisionTruncates :
    0 ≤ (65#64).toInt ∧ (BitVec.ofInt 64 (-65)).toInt < 0 ∧ (BitVec.ofInt 64 (-64)).toInt < 0 ∧
    ((2 ^ 6 : Int) ∣ (BitVec.ofInt 64 (-64)).toInt) ∧ ¬ ((2 ^ 6 : Int) ∣ (BitVec.ofInt 64 (-65)).toInt) := by decide

theorem test_witness_ReservedWordsDoNotMatter :
    (after (compensateStep { idle with cal := loaded, d1 := some 0, d2 := some 0 })).isSome = true ∧
    (after (compensateCall 0 0 { idle with cal := loaded, calValid := true })).isSome = true := by decide

/-- Steps that write the calibration, STAGE, LAST, READY_AT, the samples and CTL, each the case its rule allows. -/
theorem test_witness_write_rules :
    (after (step (turn .initialise 11 { idle with stage := loaded }))).map (fun t => decide (t.cal = idle.cal)) = some false ∧
    (after (step (turn .initialise 3 idle))).map (fun t => decide (t.stage = idle.stage)) = some false ∧
    (after (step (turn .readCycle 7 { idle with cal := loaded, d1 := some 1, d2 := some 2 }))).map
      (fun t => decide (t.last = idle.last)) = some false ∧
    (after (step (turn .reset 0 idle))).map (fun t => decide (t.readyAt = idle.readyAt)) = some false ∧
    (after (step (turn .readCycle 3 pressure))).map (fun t => decide (t.d1 = pressure.d1)) = some false ∧
    (after (step (turn .readCycle 6 temperature))).map (fun t => decide (t.ctl = temperature.ctl)) = some false := by decide

theorem test_witness_TimeNeverDecreases :
    (after (step { idle with schedule := [.tick 7] })).map (·.now) = some 10007 := by decide

theorem test_witness_StepSendsAtMostOneCommand :
    (after (step (turn .reset 0 idle))).map (·.sent) = some (encode .reset) := by decide

theorem test_witness_ConfigurationAndPromFixed :
    (turn .reset 0 idle).prom.wf = true ∧ (after (step (turn .reset 0 idle))).isSome = true := by decide

/-- A block in the middle of a readCycle, at the ADC_READ of its pressure conversion. -/
def midCycle : State := turn .readCycle 3 { pressure with cal := loaded, calValid := true }

/-- A loaded calibration is whole. -/
theorem calibrationWhole_loaded {s : State} (hc : s.cal = loaded) (hv : s.calValid = true) : calibrationWhole s := by
  refine ⟨fun _ => ?_, fun h => by rw [hv] at h; cases h⟩
  rw [hc]
  decide

theorem test_witness_consistent : consistent midCycle ∧ onlyOperations midCycle.schedule := by
  refine ⟨⟨rfl, .inr ⟨rfl, .inr (.inr (.inl ⟨rfl, rfl, by decide, rfl, rfl⟩))⟩, calibrationWhole_loaded rfl rfl⟩, ?_⟩
  intro b hb
  simp [midCycle, turn] at hb

theorem test_witness_mirrored : mirrored midCycle := fun _ => ⟨rfl, rfl⟩

theorem test_witness_faithful : faithful midCycle := by
  intro j w
  have hc : ∀ j : Fin 8, midCycle.cal[j] = some (midCycle.prom.word (BitVec.ofNat 3 j)) := by decide
  have hs : ∀ j : Fin 8, midCycle.stage[j] = none := by decide
  rw [hc j, hs j]
  exact ⟨fun h => by injection h with h; exact h.symm, fun h => by cases h⟩

/-- A block at the first PROM_READ of initialize, at the very time the reset has settled: `Now() = READY_AT`. -/
def settled : State := turn .initialise 3 { idle with activity := .settling 0, now := 2800 }

theorem test_witness_consistent_settled : consistent settled ∧ onlyOperations settled.schedule ∧ mirrored settled := by
  refine ⟨⟨rfl, ⟨by decide, fun _ => rfl, fun h => absurd h (by decide), fun _ => rfl, fun _ => by decide, fun j hj => ?_⟩,
    fun h => absurd h (by decide), fun _ => by decide⟩, fun b hb => ?_, fun _ => ⟨rfl, rfl⟩⟩
  · exact absurd hj (by simp [settled, turn])
  · simp [settled, turn] at hb

/-- A calibrated block at the CONVERT D1 of readCycle, at the very time a reset has settled. -/
def beforeConvertD1 : State :=
  turn .readCycle 1 { idle with cal := loaded, calValid := true, activity := .settling 0, now := 2800 }

theorem test_witness_consistent_convertD1 :
    consistent beforeConvertD1 ∧ onlyOperations beforeConvertD1.schedule ∧ mirrored beforeConvertD1 := by
  refine ⟨⟨rfl, .inr ⟨rfl, .inl ⟨rfl, rfl, by decide, rfl, rfl⟩⟩, calibrationWhole_loaded rfl rfl⟩, fun b hb => ?_,
    fun _ => ⟨rfl, rfl⟩⟩
  simp [beforeConvertD1, turn] at hb

/-- A calibrated block at the CONVERT D2 of readCycle, D1 read, at `Now() = READY_AT`. -/
def beforeConvertD2 : State := turn .readCycle 4 { pressureRead with cal := loaded, calValid := true, now := 9040 }

theorem test_witness_consistent_convertD2 :
    consistent beforeConvertD2 ∧ onlyOperations beforeConvertD2.schedule ∧ mirrored beforeConvertD2 := by
  refine ⟨⟨rfl, .inr ⟨rfl, .inr (.inr (.inr (.inl ⟨rfl, rfl, by decide, by decide, rfl⟩)))⟩, calibrationWhole_loaded rfl rfl⟩,
    fun b hb => ?_, fun _ => rfl⟩
  simp [beforeConvertD2, turn] at hb

/-- HazardsAreAvoided, ADC_READ: the consistent, mirrored block above sends it, and the same block does at `Now() = READY_AT`. -/
theorem test_witness_HazardsAreAvoided :
    (after (step midCycle)).map (·.sent) = some (midCycle.sent ++ encode .adcRead) ∧
    (after (step { midCycle with now := 9040 })).map (·.sent) = some (midCycle.sent ++ encode .adcRead) := by decide

/-- The block in the middle of a readCycle is consistent and mirrored at `Now() = READY_AT` too. -/
theorem test_witness_consistent_adcRead :
    consistent { midCycle with now := 9040 } ∧ onlyOperations midCycle.schedule ∧ mirrored { midCycle with now := 9040 } :=
  ⟨⟨rfl, .inr ⟨rfl, .inr (.inr (.inl ⟨rfl, rfl, by decide, rfl, rfl⟩))⟩, calibrationWhole_loaded rfl rfl⟩,
    test_witness_consistent.2, fun _ => ⟨rfl, rfl⟩⟩

/-- HazardsAreAvoided, a settling reset: the block sends its PROM_READ at `Now() = READY_AT`. -/
theorem test_witness_HazardsAreAvoided_settling :
    settled.activity = .settling 0 ∧ settled.now = settled.readyAt ∧
    (after (step settled)).map (·.sent) = some (settled.sent ++ encode (.promRead 0#3)) := by decide

/-- HazardsAreAvoided, CONVERT: both conversions are sent at `Now() = READY_AT`, the first after a reset that settles. -/
theorem test_witness_HazardsAreAvoided_convert :
    (beforeConvertD1.activity = .settling 0 ∧ beforeConvertD1.now = beforeConvertD1.readyAt ∧
      (after (step beforeConvertD1)).map (·.sent) = some (beforeConvertD1.sent ++ encode .convertD1Osr4096)) ∧
    (beforeConvertD2.now = beforeConvertD2.readyAt ∧
      (after (step beforeConvertD2)).map (·.sent) = some (beforeConvertD2.sent ++ encode .convertD2Osr1024)) ∧
    isConvert .convertD1Osr4096 ∧ isConvert .convertD2Osr1024 :=
  ⟨by decide, by decide, ⟨.d1, .osr4096, rfl⟩, ⟨.d2, .osr1024, rfl⟩⟩

/-- FailedInitializeLeavesNoCalibration: the block at its first PROM_READ, whose transfer fails. -/
theorem test_witness_FailedInitializeLeavesNoCalibration :
    consistent { settled with bus := [.fail] } ∧ onlyOperations settled.schedule ∧ settled.mpc.op = .initialise ∧
    (after (step { settled with bus := [.fail] })).map (·.returned)
      = some (settled.returned ++ [⟨.initialise, .err .transportFailure⟩]) :=
  ⟨test_witness_consistent_settled.1, test_witness_consistent_settled.2.1, rfl, by decide⟩

end Sys2Proof.Tests
end

/-! ## The datapath's division

The division by `2^k` on 64-bit words (R12, R107), tied to the integers for every exponent at which `2^k` is a positive 64-bit
word: it is the integers' truncating division, by sign a floor of `|a| / 2^k`, and an arithmetic right shift corrected by one
on negative non-multiples. -/

namespace Sys2Proof.Machine

/-- The divisor is the power of two it stands for, as long as it stays below the sign bit. -/
theorem toInt_scale {k : Nat} (hk : k < 63) : (scale k).toInt = 2 ^ k := by
  have htwoPow : scale k = BitVec.twoPow 64 k := (BitVec.twoPow_eq 64 k).symm
  rw [htwoPow, BitVec.toInt_twoPow, if_neg (by omega), if_neg (by omega)]

/-- So the one quotient that overflows 64 bits, `-2^63 / -1`, is never asked for. -/
theorem scale_ne_neg_one {k : Nat} (hk : k < 63) : scale k ≠ -1#64 := by
  intro h
  have hpos : (0 : Int) < 2 ^ k := by positivity
  have hneg : (-1#64).toInt = -1 := by decide
  rw [← toInt_scale hk, h, hneg] at hpos
  omega

/-- The datapath's division is the integers' truncating division by `2^k`. -/
theorem toInt_tdiv64 (a : S64) {k : Nat} (hk : k < 63) : (tdiv64 a k).toInt = a.toInt.tdiv (2 ^ k) := by
  rw [tdiv64, BitVec.toInt_sdiv_of_ne_or_ne _ _ (.inr (scale_ne_neg_one hk)), toInt_scale hk]

theorem toInt_tdiv64_of_nonneg {a : S64} {k : Nat} (hk : k < 63) (ha : 0 ≤ a.toInt) :
    (tdiv64 a k).toInt = ((a.toInt.natAbs / 2 ^ k : Nat) : Int) := by
  rw [toInt_tdiv64 a hk, Int.ofNat_tdiv, Int.natAbs_of_nonneg ha]
  norm_cast

theorem toInt_tdiv64_of_neg {a : S64} {k : Nat} (hk : k < 63) (ha : a.toInt < 0) :
    (tdiv64 a k).toInt = -((a.toInt.natAbs / 2 ^ k : Nat) : Int) := by
  rw [toInt_tdiv64 a hk, Int.ofNat_tdiv, Int.ofNat_natAbs_of_nonpos ha.le, Int.neg_tdiv, neg_neg]
  norm_cast

/-- An arithmetic right shift rounds toward minus infinity, so the quotient exceeds it by one exactly where truncation rounds
up: on a negative dividend that `2^k` does not divide. -/
theorem toInt_tdiv64_eq_sshiftRight_add (a : S64) {k : Nat} (hk : k < 63) :
    (tdiv64 a k).toInt = (a.sshiftRight k).toInt + if 0 ≤ a.toInt ∨ (2 ^ k : Int) ∣ a.toInt then 0 else 1 := by
  have hsign : (2 ^ k : Int).sign = 1 := Int.sign_eq_one_of_pos (by positivity)
  rw [toInt_tdiv64 a hk, BitVec.toInt_sshiftRight, Int.shiftRight_eq_div_pow, Int.tdiv_eq_ediv, hsign]
  norm_cast

theorem tdiv64_eq_sshiftRight {a : S64} {k : Nat} (hk : k < 63) (ha : 0 ≤ a.toInt ∨ (2 ^ k : Int) ∣ a.toInt) :
    tdiv64 a k = a.sshiftRight k := by
  apply BitVec.eq_of_toInt_eq
  rw [toInt_tdiv64_eq_sshiftRight_add a hk, if_pos ha, add_zero]

theorem toInt_tdiv64_of_neg_of_not_dvd {a : S64} {k : Nat} (hk : k < 63) (ha : a.toInt < 0)
    (hdvd : ¬ (2 ^ k : Int) ∣ a.toInt) : (tdiv64 a k).toInt = (a.sshiftRight k).toInt + 1 := by
  rw [toInt_tdiv64_eq_sshiftRight_add a hk, if_neg (not_or.mpr ⟨ha.not_ge, hdvd⟩)]

/-- Every exponent the compensation divides by keeps its divisor below the sign bit. -/
theorem lt_of_mem_divisionExponents {k : Nat} (hk : k ∈ [6, 7, 15, 21, 23]) : k < 63 := by
  have hall : ∀ k ∈ [6, 7, 15, 21, 23], k < 63 := by decide
  exact hall k hk

/-- Settles O35: the 64-bit quotient is the integers' truncating one, since no exponent in use reaches the sign bit; its sign
clauses and its distance from the shift are then those of the integers. -/
theorem divisionTruncates : Obligations.DivisionTruncates := by
  intro a k hmem
  have hk := lt_of_mem_divisionExponents hmem
  refine ⟨toInt_tdiv64_of_nonneg hk, toInt_tdiv64_of_neg hk, fun h => tdiv64_eq_sshiftRight hk ?_,
    toInt_tdiv64_of_neg_of_not_dvd hk⟩
  rcases lt_or_ge a.toInt 0 with hneg | hnonneg
  · exact .inr (not_not.mp fun hdvd => h ⟨hneg, hdvd⟩)
  · exact .inl hnonneg

end Sys2Proof.Machine

/-! ## What a step writes

The registers after a step, for every event and micro-step at once (R71, R74): the rules about who writes a register, and the
invariants of the sensor's mirror and of the calibration, are read off these cases. -/

namespace Sys2Proof.Machine

open Sys2Proof.Safety

/-- Every instruction is RESET, a CONVERT, ADC_READ or a PROM_READ. -/
theorem Instr.kinds (i : Instr) :
    i = .reset ∨ (∃ ch o, i = Instr.convert ch o) ∨ i = .adcRead ∨ ∃ k, i = .promRead k := by
  cases i with
  | reset => exact .inl rfl
  | adcRead => exact .inr (.inr (.inl rfl))
  | promRead k => exact .inr (.inr (.inr ⟨k, rfl⟩))
  | convertD1Osr256 => exact .inr (.inl ⟨.d1, .osr256, rfl⟩)
  | convertD1Osr512 => exact .inr (.inl ⟨.d1, .osr512, rfl⟩)
  | convertD1Osr1024 => exact .inr (.inl ⟨.d1, .osr1024, rfl⟩)
  | convertD1Osr2048 => exact .inr (.inl ⟨.d1, .osr2048, rfl⟩)
  | convertD1Osr4096 => exact .inr (.inl ⟨.d1, .osr4096, rfl⟩)
  | convertD2Osr256 => exact .inr (.inl ⟨.d2, .osr256, rfl⟩)
  | convertD2Osr512 => exact .inr (.inl ⟨.d2, .osr512, rfl⟩)
  | convertD2Osr1024 => exact .inr (.inl ⟨.d2, .osr1024, rfl⟩)
  | convertD2Osr2048 => exact .inr (.inl ⟨.d2, .osr2048, rfl⟩)
  | convertD2Osr4096 => exact .inr (.inl ⟨.d2, .osr4096, rfl⟩)

/-- One CONVERT semantics for its ten opcodes: the writes (R76). -/
theorem execWrites_convert (ch : Channel) (o : Osr) (s : State) (rx : List Byte) (t : State) :
    execWrites (Instr.convert ch o) s rx t = t.convertDone ch o := by
  cases ch <;> cases o <;> rfl

/-- One CONVERT semantics for its ten opcodes: the sensor's reaction (R44, R76). -/
theorem activityAfter_convert (ch : Channel) (o : Osr) (t : Nat) (a : Activity) :
    activityAfter (Instr.convert ch o) t a = .converting ch o t := by
  cases ch <;> cases o <;> rfl

/-- The command `i` comes from a single command event, or from the micro-step MPC points at. -/
def Commanded (s : State) (i : Instr) : Prop :=
  (∃ b, Event.command b ∈ s.schedule) ∨ s.currentMicroStep = some (.command i)

/-- What a step from `s` makes of the registers, the sensor and the bus log of `u`, which is `s` with its event taken. -/
inductive Written (s u : State) : State → Prop where
  | nothing : Written s u u
  | fault (k : FaultKind) : Written s u (u.raise k)
  | failed (i : Instr) : Written s u (u.transferred i .unknown).transportFailure
  | reset : Written s u (u.transferred .reset (.settling u.now)).resetDone
  | convert (ch : Channel) (o : Osr) (src : Commanded s (Instr.convert ch o)) :
      Written s u ((u.transferred (Instr.convert ch o) (.converting ch o u.now)).convertDone ch o)
  | sample (raw : U24) (guard : u.adcDestination ≠ none) :
      Written s u ((u.transferred .adcRead .quiet).storeSample u.adcDestination raw)
  | stage (k : U3) : Written s u ((u.transferred (.promRead k) u.activity).setStage k (u.prom.word k))
  | loadBegin (mpc : s.mpc = ⟨.initialise, 0⟩) : Written s u u.loadBegin
  | commit (mpc : s.mpc = ⟨.initialise, 11⟩) : Written s u { u with cal := u.stage, calValid := true }
  | beginCycle (mpc : s.mpc = ⟨.readCycle, 0⟩) (ctl : u.ctl = .idle ∨ u.ctl = .done) :
      Written s u { u with ctl := .idle, d1 := none, d2 := none }
  | compensate (mpc : s.mpc = ⟨.readCycle, 7⟩) (k : Coefficients) (d1 d2 : U24) (cal : coefficients u.cal = some k)
      (sample1 : u.d1 = some d1) (sample2 : u.d2 = some d2) : Written s u { u with last := some (comp k d1 d2) }

/-- `t` is `v` but for MPC and the results returned. -/
def Completes (v t : State) : Prop := ∃ m r, t = { v with mpc := m, returned := r }

theorem Completes.refl (v : State) : Completes v v := ⟨v.mpc, v.returned, rfl⟩

theorem Completes.returnErr (v : State) (k : ErrorKind) : Completes v (v.returnErr k) := ⟨_, _, rfl⟩

theorem Completes.advance {v u : State} (h : Completes v u) : Completes v u.advance := by
  obtain ⟨m, r, rfl⟩ := h
  unfold State.advance
  split
  · exact ⟨_, _, rfl⟩
  · exact ⟨_, _, rfl⟩

theorem Completes.advanceUnlessEnded {v u : State} (h : Completes v u) : Completes v u.advanceUnlessEnded := by
  unfold State.advanceUnlessEnded
  split
  · exact h.advance
  · exact h

theorem Completes.waitStep (v : State) : Completes v v.waitStep := by
  unfold State.waitStep
  split
  · exact (Completes.refl v).advance
  · exact .refl v

/-- An ADC_READ whose guard holds has a destination (R72). -/
theorem adcDestination_of_guard {s : State} (h : execGuard .adcRead s = none) : s.adcDestination ≠ none := by
  intro hd
  simp [execGuard, guardAdcRead, guardOf, hd] at h

/-- What a command writes, wherever it comes from. -/
theorem exec_written {s u t : State} {i : Instr} (src : Commanded s i) (h : exec i u = .next t) : Written s u t := by
  obtain ⟨-, ⟨k, -, rfl⟩ | ⟨-, -, rfl⟩ | ⟨hg, rx, hrx, rfl⟩⟩ := exec_next h
  · exact .fault k
  · exact .failed i
  · rcases Instr.kinds i with rfl | ⟨ch, o, rfl⟩ | rfl | ⟨k, rfl⟩
    · exact .reset
    · rw [execWrites_convert, activityAfter_convert]
      exact .convert ch o src
    · exact .sample (sampleOf rx) (adcDestination_of_guard hg)
    · have hw : promWordOf rx = u.prom.word k := promWordOf_response hrx
      show Written s u ((u.transferred (.promRead k) u.activity).setStage k (promWordOf rx))
      rw [hw]
      exact .stage k

/-- MPC by its two fields. -/
theorem mpc_eq_iff {m : Mpc} {op : OpName} {idx : Nat} : m = ⟨op, idx⟩ ↔ m.op = op ∧ m.idx = idx := by
  cases m
  rw [Mpc.mk.injEq]

/-- Where LOAD_BEGIN, LOAD_COMMIT, BEGIN_CYCLE and COMPENSATE stand in the sequences (R114, R116). -/
theorem mpc_of_currentMicroStep {s : State} {m : MicroStep} (h : s.currentMicroStep = some m) :
    (m = .loadBegin → s.mpc = ⟨.initialise, 0⟩) ∧ (m = .loadCommit → s.mpc = ⟨.initialise, 11⟩) ∧
    (m = .beginCycle → s.mpc = ⟨.readCycle, 0⟩) ∧ (m = .compensate → s.mpc = ⟨.readCycle, 7⟩) := by
  have hc := currentMicroStep_cases h
  refine ⟨?_, ?_, ?_, ?_⟩ <;> rintro rfl <;> simpa [mpc_eq_iff] using hc

/-- What a micro-step writes. -/
theorem performMicroStep_written {s u t : State} {m : MicroStep} (hm : s.currentMicroStep = some m)
    (h : performMicroStep m u = .next t) : ∃ v, Written s u v ∧ Completes v t := by
  obtain ⟨hBegin, hCommit, hCycle, hComp⟩ := mpc_of_currentMicroStep hm
  rcases performMicroStep_next h with ⟨i, v, rfl, hv, rfl⟩ | ⟨rfl, rfl⟩ | ⟨rfl, rfl⟩ | ⟨rfl, rfl⟩ | ⟨rfl, v, hv, rfl⟩ |
    ⟨rfl, v, hv, rfl⟩
  · exact ⟨v, exec_written (.inr hm) hv, (Completes.refl v).advanceUnlessEnded⟩
  · exact ⟨u, .nothing, .waitStep u⟩
  · rcases beginCycle_cases u with ⟨-, he⟩ | ⟨-, -, he⟩ | ⟨-, hctl, he⟩ | ⟨-, -, he⟩ <;> rw [he]
    · exact ⟨u, .nothing, (Completes.returnErr u _).advanceUnlessEnded⟩
    · exact ⟨u, .nothing, (Completes.returnErr u _).advanceUnlessEnded⟩
    · exact ⟨_, .beginCycle (hCycle rfl) hctl, (Completes.refl _).advanceUnlessEnded⟩
    · exact ⟨_, .fault _, (Completes.refl _).advanceUnlessEnded⟩
  · exact ⟨_, .loadBegin (hBegin rfl), (Completes.refl _).advance⟩
  · obtain ⟨-, rfl | rfl⟩ := loadCommit_next hv
    · exact ⟨_, .commit (hCommit rfl), (Completes.refl _).advanceUnlessEnded⟩
    · exact ⟨u, .nothing, (Completes.returnErr u _).advanceUnlessEnded⟩
  · obtain ⟨k, d1, d2, hk, h1, h2, rfl⟩ := compensateStep_next hv
    exact ⟨_, .compensate (hComp rfl) k d1 d2 hk h1 h2, (Completes.refl _).advanceUnlessEnded⟩

/-- The passing of time is no write. -/
theorem EventTaken.elapse {s u : State} (h : EventTaken s u) (d : Nat) : EventTaken s (u.elapse d) :=
  { h with now := h.now.trans (Nat.le_add_right _ _) }

/-- Every case of what a step writes; MPC and the results returned are left open. -/
theorem step_written {s t : State} (h : step s = .next t) :
    ∃ u v, EventTaken s u ∧ Written s u v ∧ Completes v t := by
  obtain ⟨-, u, hu, hh⟩ := step_cases h
  cases hh with
  | time d eq => exact ⟨_, _, hu.elapse d, .nothing, eq ▸ .refl _⟩
  | read r eq => exact ⟨u, u, hu, .nothing, u.mpc, _, eq⟩
  | idle _ eq => exact ⟨u, u, hu, .nothing, eq ▸ .refl _⟩
  | single b mem i run _ => exact ⟨u, t, hu, exec_written (.inl ⟨b, mem⟩) run, .refl t⟩
  | start _ o _ eq => exact ⟨u, u, hu, .nothing, _, u.returned, eq⟩
  | answer _ r eq => exact ⟨u, u, hu, .nothing, u.mpc, _, eq⟩
  | micro _ m cur run _ =>
    obtain ⟨v, hv, ht⟩ := performMicroStep_written cur run
    exact ⟨u, v, hu, hv, ht⟩

/-! ## The sensor's mirror (R30) -/

/-- The destination of an ADC_READ is read off CTL and the samples. -/
theorem adcDestination_congr {s t : State} (hc : t.ctl = s.ctl) (h1 : t.d1 = s.d1) (h2 : t.d2 = s.d2) :
    t.adcDestination = s.adcDestination := by
  unfold State.adcDestination
  rw [hc, h1, h2]

/-- No result is pending while CTL is Idle or Done. -/
theorem adcDestination_of_idle_or_done {s : State} (h : s.ctl = .idle ∨ s.ctl = .done) : s.adcDestination = none := by
  rcases h with h | h <;> simp [State.adcDestination, h]

/-- D1 is the destination exactly in PressureConverting with D1 none (R72, R87). -/
theorem adcDestination_eq_d1 {s : State} :
    s.adcDestination = some .d1 ↔ s.ctl = .pressureConverting ∧ s.d1 = none := by
  unfold State.adcDestination
  split_ifs with h1 h2 <;> simp [h1]

/-- D2 is the destination exactly in TemperatureConverting with D2 none (R72, R87). -/
theorem adcDestination_eq_d2 {s : State} :
    s.adcDestination = some .d2 ↔ s.ctl = .temperatureConverting ∧ s.d2 = none := by
  unfold State.adcDestination
  split_ifs with h1 h2
  · simp [h1]
  · simp [h2]
  · simp [h2]

/-- A sample stored is no longer pending. -/
theorem adcDestination_storeSample {s u : State} (raw : U24) (hd : u.adcDestination = s.adcDestination) :
    (u.storeSample s.adcDestination raw).adcDestination = none := by
  rw [← hd]
  match h : u.adcDestination with
  | none => exact h
  | some .d1 => simp [State.adcDestination, (adcDestination_eq_d1.mp h).1]
  | some .d2 => exact adcDestination_of_idle_or_done (.inr rfl)

/-- The sample that a conversion will fill. -/
def State.sampleFor (s : State) : Channel → Option U24
  | .d1 => s.d1
  | .d2 => s.d2

/-- A conversion just started is the one whose result is pending, where its sample was none. -/
theorem adcDestination_convertDone {s : State} {ch : Channel} (o : Osr) (h : s.sampleFor ch = none) :
    (s.convertDone ch o).adcDestination = some ch := by
  cases ch with
  | d1 => exact adcDestination_eq_d1.mpr ⟨rfl, h⟩
  | d2 => exact adcDestination_eq_d2.mpr ⟨rfl, h⟩

/-- What agrees with an activity is the destination of an ADC_READ, READY_AT and the timing. -/
theorem agreesWith_congr {s t : State} {a : Activity} (hd : t.adcDestination = s.adcDestination)
    (hr : t.readyAt = s.readyAt) (hg : t.config = s.config) (h : agreesWith s a) : agreesWith t a := by
  unfold agreesWith at *
  rw [hd, hr, hg]
  exact h

/-- The mirror is kept where CTL, the samples, READY_AT, the configuration and the sensor's activity are. -/
theorem mirrored_congr {s t : State} (hc : t.ctl = s.ctl) (h1 : t.d1 = s.d1) (h2 : t.d2 = s.d2)
    (hr : t.readyAt = s.readyAt) (hg : t.config = s.config) (ha : t.activity = s.activity) (h : mirrored s) :
    mirrored t := by
  intro hn
  rw [ha]
  exact agreesWith_congr (adcDestination_congr hc h1 h2) hr hg (h (hc ▸ hn))

/-- The only CONVERTs of the fixed sequences are those of readCycle, of D1 at step 1 and of D2 at step 4 (R116). -/
theorem mpc_of_convert {s : State} {ch : Channel} {o : Osr}
    (h : s.currentMicroStep = some (.command (Instr.convert ch o))) :
    s.mpc.op = .readCycle ∧ (ch = .d1 ∧ s.mpc.idx = 1 ∨ ch = .d2 ∧ s.mpc.idx = 4) := by
  have hact (i : Instr) (hi : Instr.convert ch o = i) : activityAfter i 0 .unknown = .converting ch o 0 := by
    rw [← hi, activityAfter_convert]
  have hnot : Instr.convert ch o ≠ .reset ∧ Instr.convert ch o ≠ .adcRead ∧ ∀ k, Instr.convert ch o ≠ .promRead k := by
    refine ⟨fun hi => ?_, fun hi => ?_, fun k hi => ?_⟩ <;> cases hact _ hi
  have hch (ch' : Channel) (o' : Osr) (hi : Instr.convert ch o = Instr.convert ch' o') : ch = ch' := by
    have hconv := hact _ hi
    rw [activityAfter_convert] at hconv
    cases hconv
    rfl
  obtain ⟨hreset, hread, hprom⟩ := hnot
  rcases currentMicroStep_cases h with ⟨-, hi⟩ | ⟨-, hi⟩ | ⟨hop, hi⟩
  · simp [hreset, hprom] at hi
  · simp [hreset] at hi
  · simp only [MicroStep.command.injEq, hread, reduceCtorEq, and_false, false_or, or_false] at hi
    rcases hi with ⟨hidx, hi⟩ | ⟨hidx, hi⟩
    · exact ⟨hop, .inl ⟨hch _ _ hi, hidx⟩⟩
    · exact ⟨hop, .inr ⟨hch _ _ hi, hidx⟩⟩

/-- At a CONVERT of the fixed sequences the sample it is for is none (R73, R116). -/
theorem sampleFor_of_commanded {s : State} {ch : Channel} {o : Osr} (hs : consistent s) (ho : onlyOperations s.schedule)
    (h : Commanded s (Instr.convert ch o)) : s.sampleFor ch = none := by
  rcases h with ⟨b, hb⟩ | hm
  · exact absurd hb (ho b)
  · obtain ⟨-, hloc, -⟩ := hs
    obtain ⟨hop, hch⟩ := mpc_of_convert hm
    have hcycle : inReadCycle s := by simpa [located, hop] using hloc
    have hsamples : (s.mpc.idx = 1 → s.d1 = none) ∧ (s.mpc.idx = 4 → s.d2 = none) := by grind [inReadCycle]
    rcases hch with ⟨rfl, hidx⟩ | ⟨rfl, hidx⟩
    · exact hsamples.1 hidx
    · exact hsamples.2 hidx

/-- A step's writes keep the mirror, in a consistent block driven by host operations. -/
theorem mirrored_of_written {s u v : State} (hs : consistent s) (ho : onlyOperations s.schedule) (hu : EventTaken s u)
    (hm : mirrored u) (h : Written s u v) : mirrored v := by
  cases h with
  | nothing => exact hm
  | fault k => exact hm
  | failed i => exact fun hn => absurd rfl hn
  | reset => exact fun _ => ⟨adcDestination_of_idle_or_done (.inl rfl), rfl⟩
  | convert ch o src =>
    have hnone : u.sampleFor ch = none := by
      rw [← sampleFor_of_commanded hs ho src]
      cases ch with
      | d1 => exact hu.d1
      | d2 => exact hu.d2
    exact fun _ => ⟨adcDestination_convertDone o (by cases ch <;> exact hnone), rfl⟩
  | sample raw guard =>
    intro _
    rw [State.storeSample_activity]
    exact adcDestination_storeSample raw rfl
  | stage k => exact hm
  | loadBegin _ => exact hm
  | commit _ => exact hm
  | beginCycle _ hctl =>
    intro _
    have hn : u.ctl ≠ .needsReset := by rcases hctl with h | h <;> simp [h]
    refine agreesWith_congr (s := u) ?_ rfl rfl (hm hn)
    rw [adcDestination_of_idle_or_done hctl, adcDestination_of_idle_or_done (.inl rfl)]
  | compensate _ _ _ _ _ _ _ => exact hm

/-- Settles O47: taking the event and completing the micro-step touch nothing the mirror speaks of, and each write keeps it. -/
theorem sensorStaysMirrored : Obligations.SensorStaysMirrored := by
  intro s t hs ho hm hstep
  obtain ⟨u, v, hu, hv, m, r, rfl⟩ := step_written hstep
  have hmu : mirrored u := mirrored_congr hu.ctl hu.d1 hu.d2 hu.readyAt hu.config hu.activity hm
  exact mirrored_congr (s := v) rfl rfl rfl rfl rfl rfl (mirrored_of_written hs ho hu hmu hv)

/-! ## The calibration's faithfulness (R18, R31, R52) -/

/-- Every word that the cells hold is the PROM's of its index. -/
def FaithfulTo (m : Memory) (cells : Cells) : Prop :=
  ∀ (j : Fin 8) (w : U16), cells[j] = some w → w = m.word (BitVec.ofNat 3 j)

/-- Faithfulness is that of `C` and that of STAGE. -/
theorem faithful_iff {s : State} : faithful s ↔ FaithfulTo s.prom s.cal ∧ FaithfulTo s.prom s.stage :=
  ⟨fun h => ⟨fun j w => (h j w).1, fun j w => (h j w).2⟩, fun h j w => ⟨h.1 j w, h.2 j w⟩⟩

/-- Cells that hold nothing hold no wrong word. -/
theorem faithfulTo_replicate_none (m : Memory) : FaithfulTo m (Vector.replicate 8 none) := by
  intro j w h
  simp at h

/-- A PROM word put at its own index is faithful. -/
theorem FaithfulTo.set {m : Memory} {cells : Cells} (h : FaithfulTo m cells) (k : U3) :
    FaithfulTo m (cells.set k.toNat (some (m.word k)) (by omega)) := by
  intro j w hj
  rw [Fin.getElem_fin, Vector.getElem_set] at hj
  split_ifs at hj with hk
  · cases hj
    rw [← hk, BitVec.ofNat_toNat, BitVec.setWidth_eq]
  · exact h j w hj

/-- A step's writes keep the calibration faithful. -/
theorem faithful_of_written {s u v : State} (hf : faithful u) (h : Written s u v) : faithful v := by
  obtain ⟨hcal, hstage⟩ := faithful_iff.mp hf
  cases h with
  | nothing => exact hf
  | fault k => exact hf
  | failed i => exact hf
  | reset => exact hf
  | convert ch o _ => exact hf
  | sample raw _ => simpa [faithful] using hf
  | stage k => exact faithful_iff.mpr ⟨hcal, hstage.set k⟩
  | loadBegin _ => exact faithful_iff.mpr ⟨faithfulTo_replicate_none _, faithfulTo_replicate_none _⟩
  | commit _ => exact faithful_iff.mpr ⟨hstage, hstage⟩
  | beginCycle _ _ => exact hf
  | compensate _ _ _ _ _ _ _ => exact hf

/-- Settles O48: only PROM_READ puts a word into a cell, LOAD_COMMIT copies faithful cells, LOAD_BEGIN empties them. -/
theorem calibrationStaysFaithful : Obligations.CalibrationStaysFaithful := by
  intro s t hf hstep
  obtain ⟨u, v, hu, hv, m, r, rfl⟩ := step_written hstep
  have hfu : faithful u := by
    unfold faithful
    rw [hu.cal, hu.stage, hu.prom]
    exact hf
  have hfv : faithful v := faithful_of_written hfu hv
  exact hfv

/-! ## Who writes a register -/

/-- `C` and CAL_VALID are LOAD_BEGIN's and LOAD_COMMIT's. -/
theorem cal_of_written {s u v : State} (h : Written s u v) :
    (v.cal = u.cal ∧ v.calValid = u.calValid) ∨
    (s.mpc = ⟨.initialise, 0⟩ ∧ v.cal = Vector.replicate 8 none ∧ v.calValid = false) ∨
    (s.mpc = ⟨.initialise, 11⟩ ∧ v.cal = u.stage ∧ v.calValid = true) := by
  cases h with
  | loadBegin hmpc => exact .inr (.inl ⟨hmpc, rfl, rfl⟩)
  | commit hmpc => exact .inr (.inr ⟨hmpc, rfl, rfl⟩)
  | _ => exact .inl (by simp)

/-- STAGE is LOAD_BEGIN's and PROM_READ's. -/
theorem stage_of_written {s u v : State} (h : Written s u v) :
    v.stage = u.stage ∨ (s.mpc = ⟨.initialise, 0⟩ ∧ v.stage = Vector.replicate 8 none) ∨
    ∃ k : U3, v.sent = u.sent ++ encode (.promRead k) ∧
      v.stage = u.stage.set k.toNat (some (u.prom.word k)) (by omega) := by
  cases h with
  | loadBegin hmpc => exact .inr (.inl ⟨hmpc, rfl⟩)
  | stage k => exact .inr (.inr ⟨k, rfl, rfl⟩)
  | _ => exact .inl (by simp)

/-- Settles O37: among a step's writes only LOAD_BEGIN's, LOAD_COMMIT's and PROM_READ's touch the calibration. -/
theorem calibrationWrittenOnlyByLoad : Obligations.CalibrationWrittenOnlyByLoad := by
  intro s t hstep
  obtain ⟨u, v, hu, hv, m, r, rfl⟩ := step_written hstep
  have hcal := cal_of_written hv
  have hstage := stage_of_written hv
  rw [hu.cal, hu.calValid, hu.stage] at hcal
  simp only [hu.stage, hu.sent, hu.prom] at hstage
  exact ⟨hcal, hstage⟩

/-- LAST is COMPENSATE's. -/
theorem last_of_written {s u v : State} (h : Written s u v) :
    v.last = u.last ∨
    (s.mpc = ⟨.readCycle, 7⟩ ∧ ∃ k d1 d2, coefficients u.cal = some k ∧ u.d1 = some d1 ∧ u.d2 = some d2 ∧
      v.last = some (comp k d1 d2)) := by
  cases h with
  | compensate hmpc k d1 d2 hk h1 h2 => exact .inr ⟨hmpc, k, d1, d2, hk, h1, h2, rfl⟩
  | _ => exact .inl (by simp)

/-- Settles O38: among a step's writes only COMPENSATE's touch LAST. -/
theorem lastWrittenOnlyByCompensate : Obligations.LastWrittenOnlyByCompensate := by
  intro s t hstep hne
  obtain ⟨u, v, hu, hv, m, r, rfl⟩ := step_written hstep
  have hlast := last_of_written hv
  rw [hu.last, hu.cal, hu.d1, hu.d2] at hlast
  exact hlast.resolve_left hne

/-- READY_AT is RESET's and CONVERT's. -/
theorem readyAt_of_written {s u v : State} (h : Written s u v) :
    v.readyAt = u.readyAt ∨
    (v.sent = u.sent ++ encode .reset ∧ v.readyAt = v.now + u.config.timing.tReset) ∨
    ∃ ch o, v.sent = u.sent ++ encode (Instr.convert ch o) ∧ v.readyAt = v.now + tConv u.config.timing o := by
  cases h with
  | reset => exact .inr (.inl ⟨rfl, rfl⟩)
  | convert ch o _ => exact .inr (.inr ⟨ch, o, rfl, rfl⟩)
  | _ => exact .inl (by simp)

/-- Settles O39: among a step's writes only RESET's and CONVERT's touch READY_AT. -/
theorem readyAtWrittenOnlyByResetAndConvert : Obligations.ReadyAtWrittenOnlyByResetAndConvert := by
  intro s t hstep hne
  obtain ⟨u, v, hu, hv, m, r, rfl⟩ := step_written hstep
  have hready := readyAt_of_written hv
  rw [hu.readyAt, hu.sent, hu.config] at hready
  exact hready.resolve_left hne

/-- D1 and D2 are BEGIN_CYCLE's and ADC_READ's. -/
theorem samples_of_written {s u v : State} (h : Written s u v) :
    (v.d1 = u.d1 ∧ v.d2 = u.d2) ∨
    (s.mpc = ⟨.readCycle, 0⟩ ∧ v.d1 = none ∧ v.d2 = none) ∨
    (v.sent = u.sent ++ encode .adcRead ∧
      ((u.ctl = .pressureConverting ∧ u.d1 = none ∧ v.d1 ≠ none ∧ v.d2 = u.d2) ∨
       (u.ctl = .temperatureConverting ∧ u.d2 = none ∧ v.d2 ≠ none ∧ v.d1 = u.d1))) := by
  cases h with
  | beginCycle hmpc _ => exact .inr (.inl ⟨hmpc, rfl, rfl⟩)
  | sample raw guard =>
    refine .inr (.inr ⟨by simp, ?_⟩)
    match hd : u.adcDestination with
    | none => exact absurd hd guard
    | some .d1 =>
      obtain ⟨hctl, h1⟩ := adcDestination_eq_d1.mp hd
      exact .inl ⟨hctl, h1, by simp, rfl⟩
    | some .d2 =>
      obtain ⟨hctl, h2⟩ := adcDestination_eq_d2.mp hd
      exact .inr ⟨hctl, h2, by simp, rfl⟩
  | _ => exact .inl (by simp)

/-- Settles O40: among a step's writes only BEGIN_CYCLE's and ADC_READ's touch the samples. -/
theorem samplesWrittenOnlyInACycle : Obligations.SamplesWrittenOnlyInACycle := by
  intro s t hstep
  obtain ⟨u, v, hu, hv, m, r, rfl⟩ := step_written hstep
  have hsamples := samples_of_written hv
  rw [hu.d1, hu.d2, hu.sent, hu.ctl] at hsamples
  exact hsamples

/-- The configuration and the PROM are nobody's. -/
theorem fixed_of_written {s u v : State} (h : Written s u v) : v.config = u.config ∧ v.prom = u.prom := by
  cases h <;> simp

/-- Settles O42: no write of a step touches the configuration or the PROM, which is the same list of cells after it. -/
theorem configurationAndPromFixed : Obligations.ConfigurationAndPromFixed := by
  intro s t hstep
  obtain ⟨u, v, hu, hv, m, r, rfl⟩ := step_written hstep
  obtain ⟨hconfig, hprom⟩ := fixed_of_written hv
  rw [hu.config] at hconfig
  rw [hu.prom] at hprom
  exact ⟨hconfig, fun a => congrArg (Memory.read · a) hprom, fun hwf => hprom ▸ hwf⟩

/-! ## The micro-step pointer (R26, R71) -/

/-- Where MPC can stand after a micro-step performed in `s`: held, one further in its sequence, or (None, 0). -/
def PointsOn (s : State) (m : Mpc) : Prop :=
  m = s.mpc ∨ (m = ⟨s.mpc.op, s.mpc.idx + 1⟩ ∧ s.mpc.idx + 1 < (sequence s.config s.mpc.op).length) ∨ m = ⟨.none, 0⟩

theorem pointsOn_advance (s : State) : PointsOn s s.advance.mpc := by
  by_cases h : s.mpc.idx + 1 < (sequence s.config s.mpc.op).length
  · rw [State.advance_mpc_next s h]
    exact .inr (.inl ⟨rfl, h⟩)
  · rw [State.advance_mpc_last s h]
    exact .inr (.inr rfl)

theorem pointsOn_waitStep (s : State) : PointsOn s s.waitStep.mpc := by
  unfold State.waitStep
  split
  · exact pointsOn_advance s
  · exact .inl rfl

/-- A micro-step's own writes leave MPC or end the operation, so that completing it moves MPC by one at most. -/
theorem pointsOn_advanceUnlessEnded {s v : State} (hc : v.config = s.config) (hm : v.mpc = s.mpc ∨ v.mpc = ⟨.none, 0⟩) :
    PointsOn s v.advanceUnlessEnded.mpc := by
  rcases hm with hm | hm
  · unfold State.advanceUnlessEnded
    split
    · have h := pointsOn_advance v
      rwa [PointsOn, hc, hm] at h
    · exact .inl hm
  · rw [advanceUnlessEnded_ended (by rw [hm])]
    exact .inr (.inr hm)

/-- A step's writes leave MPC as it was, but for a failed transfer, which ends the operation (R129). -/
theorem mpc_of_written {s u v : State} (h : Written s u v) : v.mpc = u.mpc ∨ v.mpc = ⟨.none, 0⟩ := by
  cases h with
  | failed i => exact .inr rfl
  | _ => exact .inl (by simp)

theorem pointsOn_performMicroStep {s u t : State} {m : MicroStep} (hm : s.currentMicroStep = some m)
    (h : performMicroStep m u = .next t) : PointsOn u t.mpc := by
  rcases performMicroStep_next h with ⟨i, v, rfl, hv, rfl⟩ | ⟨-, rfl⟩ | ⟨-, rfl⟩ | ⟨-, rfl⟩ | ⟨-, v, hv, rfl⟩ |
    ⟨-, v, hv, rfl⟩
  · have hw : Written s u v := exec_written (.inr hm) hv
    exact pointsOn_advanceUnlessEnded (fixed_of_written hw).1 (mpc_of_written hw)
  · exact pointsOn_waitStep u
  · rcases beginCycle_cases u with ⟨-, he⟩ | ⟨-, -, he⟩ | ⟨-, -, he⟩ | ⟨-, -, he⟩ <;> rw [he]
    · exact pointsOn_advanceUnlessEnded rfl (.inr rfl)
    · exact pointsOn_advanceUnlessEnded rfl (.inr rfl)
    · exact pointsOn_advanceUnlessEnded rfl (.inl rfl)
    · exact pointsOn_advanceUnlessEnded rfl (.inl rfl)
  · exact pointsOn_advance u.loadBegin
  · obtain ⟨-, rfl | rfl⟩ := loadCommit_next hv
    · exact pointsOn_advanceUnlessEnded rfl (.inl rfl)
    · exact pointsOn_advanceUnlessEnded rfl (.inr rfl)
  · obtain ⟨k, d1, d2, -, -, -, rfl⟩ := compensateStep_next hv
    exact pointsOn_advanceUnlessEnded rfl (.inl rfl)

/-- Settles O27: a micro-step moves MPC on within its sequence or ends it, a single command can only end the operation, and
between operations a call starts one at its first micro-step. -/
theorem microStepPointerMoves : Obligations.MicroStepPointerMoves := by
  intro s t hstep
  obtain ⟨-, u, hu, hh⟩ := step_cases hstep
  cases hh with
  | time d eq => exact .inl (eq ▸ hu.mpc)
  | read r eq => exact .inl (eq ▸ hu.mpc)
  | idle _ eq => exact .inl (eq ▸ hu.mpc)
  | answer _ r eq => exact .inl (eq ▸ hu.mpc)
  | start op o real eq => exact .inr (.inr (.inr ⟨op, eq ▸ real, eq ▸ rfl⟩))
  | single b mem i run _ =>
    rcases mpc_of_written (exec_written (s := s) (.inl ⟨b, mem⟩) run) with h | h
    · exact .inl (h.trans hu.mpc)
    · exact .inr (.inr (.inl h))
  | micro op m cur run _ =>
    have hon := pointsOn_performMicroStep cur run
    rw [PointsOn, hu.mpc, hu.config] at hon
    rcases hon with h | ⟨h, hlt⟩ | h
    · exact .inl h
    · exact .inr (.inl ⟨op, h, hlt⟩)
    · exact .inr (.inr (.inl h))

/-! ## Power-on, construction and the stop of a faulted block (R28, R29, R32) -/

/-- The timing at reset grows strictly and is positive, whatever the open constants are (R91, R92). -/
theorem resetTiming_wellFormed : State.resetTiming.wellFormed = true := by
  simp only [Timing.wellFormed, Bool.and_eq_true, decide_eq_true_eq]
  simp only [State.resetTiming]
  omega

theorem resetConfiguration_wellFormed : State.resetConfiguration.wellFormed = true := by
  simp [Configuration.wellFormed, State.resetConfiguration, resetTiming_wellFormed]

/-- Settles O5: the reset state is a power-on state by definition, and a power-on state has the values of R32 by definition. -/
theorem powerOnValues : Obligations.PowerOnValues := by
  refine ⟨⟨_, _, _, rfl, resetConfiguration_wellFormed, Memory.wf_empty⟩, fun g m t => ?_⟩
  have hcells (j : Fin 8) : (State.powerOn g m t).cal[j] = none ∧ (State.powerOn g m t).stage[j] = none := by
    simp [State.powerOn]
  exact ⟨hcells, rfl, rfl, rfl, rfl, rfl, rfl, rfl, rfl, rfl, rfl, rfl⟩

/-- A legal rate is the rate of the OSR it names (R29). -/
theorem ofRate_of_legalOsr {osr : Nat} (h : legalOsr osr = true) : ∃ o, Osr.ofRate osr = some o ∧ o.rate = osr := by
  simp only [legalOsr, Bool.or_eq_true, beq_iff_eq] at h
  rcases h with (((rfl | rfl) | rfl) | rfl) | rfl
  · exact ⟨.osr256, rfl, rfl⟩
  · exact ⟨.osr512, rfl, rfl⟩
  · exact ⟨.osr1024, rfl, rfl⟩
  · exact ⟨.osr2048, rfl, rfl⟩
  · exact ⟨.osr4096, rfl, rfl⟩

/-- Any other rate names no OSR (R29). -/
theorem ofRate_of_not_legalOsr {osr : Nat} (h : legalOsr osr = false) : Osr.ofRate osr = none := by
  simp only [legalOsr, Bool.or_eq_false_iff, beq_eq_false_iff_ne] at h
  obtain ⟨⟨⟨⟨h256, h512⟩, h1024⟩, h2048⟩, h4096⟩ := h
  simp [Osr.ofRate, h256, h512, h1024, h2048, h4096]

/-- Settles O6: the construction reads its two rates, and programs the PROM with the words given. -/
theorem constructionChecksOsr : Obligations.ConstructionChecksOsr := by
  intro osr1 osr2 addr cs tm prom t
  constructor
  · rintro (h | h)
    · rw [construct, ofRate_of_not_legalOsr h]
    · rw [construct, ofRate_of_not_legalOsr h]
      cases Osr.ofRate osr1 <;> rfl
  · intro h1 h2
    obtain ⟨o1, ho1, hr1⟩ := ofRate_of_legalOsr h1
    obtain ⟨o2, ho2, hr2⟩ := ofRate_of_legalOsr h2
    refine ⟨o1, o2, Memory.ofWords prom, hr1, hr2, Memory.wf_ofWords prom, Memory.word_ofWords prom, ?_⟩
    rw [construct, ho1, ho2]

/-- Settles O7: the step and the frame of every command look at FAULT first. -/
theorem faultedBlockTakesNoStep : Obligations.FaultedBlockTakesNoStep := by
  refine ⟨rfl, fun s k hk => ⟨by rw [step, hk], fun i => ?_⟩⟩
  rw [exec_eq_command, command.eq_def, hk]

/-- Settles O45: at power-on CTL is NeedsReset, no operation is in progress, and no cell holds a word. -/
theorem powerOnIsConsistent : Obligations.PowerOnIsConsistent := by
  intro g m t
  have hrest : atRest (State.powerOn g m t) := ⟨.inr (.inr rfl), fun h => absurd rfl h⟩
  have hwhole : calibrationWhole (State.powerOn g m t) :=
    ⟨fun h => Bool.noConfusion h, fun _ j => by simp [State.powerOn]⟩
  refine ⟨⟨rfl, hrest, hwhole⟩, fun h => absurd rfl h, ?_, fun b hb => List.not_mem_nil hb⟩
  exact faithful_iff.mpr ⟨faithfulTo_replicate_none m, faithfulTo_replicate_none m⟩

end Sys2Proof.Machine

/-! ## The bus: responses and the log (R35, R36, R47) -/

namespace Sys2Proof.Machine

/-- There is no response exactly on a failure or a sequence of a wrong length (R36). -/
theorem response_eq_none_iff {i : Instr} {s : State} :
    s.response i = none ↔ s.nextAnswer = .fail ∨ ∃ rx, s.nextAnswer = .wrongLength rx := by
  cases ha : s.nextAnswer with
  | fail => simp [response_of_fail ha]
  | wrongLength r => simp [response_of_wrongLength ha]
  | answer echo sample => simp [response_of_answer ha]

/-- Settles O13: a response is byte 0 of an answer and the command's payload, whose length is the row's less one. -/
theorem responseHasItsLength : Obligations.ResponseHasItsLength := by
  intro i s
  refine ⟨response_eq_none_iff, fun rx hrx => ?_⟩
  obtain ⟨echo, sample, ha, rfl⟩ := response_some hrx
  exact ⟨answerPayload_length i sample s.prom, echo, sample, ha, rfl⟩

/-- Words joined are numbers added: the left one counts in units of the right one's size. -/
theorem toNat_append_eq_add {n m : Nat} (x : BitVec n) (y : BitVec m) :
    (x ++ y).toNat = x.toNat * 2 ^ m + y.toNat := by
  rw [BitVec.toNat_append, ← Nat.shiftLeft_add_eq_or_of_lt y.isLt, Nat.shiftLeft_eq]

theorem toNat_be16 (b1 b2 : Byte) : (be16 b1 b2).toNat = b1.toNat * 256 + b2.toNat :=
  toNat_append_eq_add b1 b2

theorem toNat_be24 (b1 b2 b3 : Byte) : (be24 b1 b2 b3).toNat = b1.toNat * 65536 + b2.toNat * 256 + b3.toNat := by
  rw [be24, toNat_append_eq_add, toNat_append_eq_add]
  ring

/-- Settles O19: a response's bytes after byte 0 are the arguments of the big-endian assembly. -/
theorem responsesAreBigEndian : Obligations.ResponsesAreBigEndian :=
  fun _ b1 b2 b3 => ⟨toNat_be16 b1 b2, toNat_be24 b1 b2 b3⟩

/-- A step's writes append nothing, or one encoding, to the bus log: a failed transfer's byte was sent too (R47). -/
theorem sent_of_written {s u v : State} (h : Written s u v) : v.sent = u.sent ∨ ∃ i, v.sent = u.sent ++ encode i := by
  cases h with
  | failed i => exact .inr ⟨i, rfl⟩
  | reset => exact .inr ⟨.reset, rfl⟩
  | convert ch o _ => exact .inr ⟨Instr.convert ch o, rfl⟩
  | sample raw _ => exact .inr ⟨.adcRead, by simp⟩
  | stage k => exact .inr ⟨.promRead k, rfl⟩
  | _ => exact .inl rfl

/-- Settles O44: taking the event and completing the micro-step send nothing, and the writes send one command at most. -/
theorem stepSendsAtMostOneCommand : Obligations.StepSendsAtMostOneCommand := by
  intro s t hstep
  obtain ⟨u, v, hu, hv, m, r, rfl⟩ := step_written hstep
  have hsent := sent_of_written hv
  rw [hu.sent] at hsent
  exact hsent

end Sys2Proof.Machine

/-! ## The decoder and the encoder (R53 to R60)

A byte decodes to an instruction exactly when it is the instruction's opcode, field by field (R54 to R56). That one fact carries
the round trip, the opcode map, and the reserved bytes. -/

namespace Sys2Proof

/-- A CONVERT byte by its fields: `010`, `ch`, `k`, `0` (R54, R55). -/
theorem convertOpcode_eq_append (c : Channel) (o : Osr) : convertOpcode c o = 0b010#3 ++ c.ch ++ o.k ++ 0#1 := by
  cases c <;> cases o <;> rfl

/-- A PROM_READ byte by its fields: `1010`, `i`, `0` (R54, R56). -/
theorem promReadOpcode_eq_append (i : U3) : promReadOpcode i = 0b1010#4 ++ i ++ 0#1 := by
  revert i
  decide

/-- A byte is its fields in the format F-CONV joined (R54). -/
theorem append_convertFields (b : Byte) :
    b.extractLsb 7 5 ++ b.extractLsb 4 4 ++ b.extractLsb 3 1 ++ b.extractLsb 0 0 = b := by
  simp only [BitVec.extractLsb, BitVec.extractLsb'_append_extractLsb'_eq_extractLsb']
  exact BitVec.extractLsb'_eq_self

/-- A byte is its fields in the format F-PROM joined (R54). -/
theorem append_promFields (b : Byte) : b.extractLsb 7 4 ++ b.extractLsb 3 1 ++ b.extractLsb 0 0 = b := by
  simp only [BitVec.extractLsb, BitVec.extractLsb'_append_extractLsb'_eq_extractLsb']
  exact BitVec.extractLsb'_eq_self

@[simp] theorem Channel.ch_ofCh (x : BitVec 1) : (Channel.ofCh x).ch = x := by
  revert x
  decide

/-- Only the rate's own `k` selects it (R55). -/
theorem Osr.k_of_ofK {k : U3} {o : Osr} (h : Osr.ofK k = some o) : o.k = k := by
  revert k o
  decide

/-- One opcode form for the ten CONVERTs (R76). -/
theorem opcode_convert (c : Channel) (o : Osr) : (Instr.convert c o).opcode = convertOpcode c o := by
  cases c <;> cases o <;> rfl

/-- Fixed top bits and a zero low bit leave of a byte what the fields `ch` and `k` say. -/
theorem eq_convertOpcode {b : Byte} {o : Osr} (hfix : b.extractLsb 7 5 = 0b010#3 ∧ b.extractLsb 0 0 = 0#1)
    (hk : Osr.ofK (b.extractLsb 3 1) = some o) : b = convertOpcode (Channel.ofCh (b.extractLsb 4 4)) o := by
  rw [convertOpcode_eq_append, Channel.ch_ofCh, Osr.k_of_ofK hk, ← hfix.1, ← hfix.2, append_convertFields]

theorem eq_promReadOpcode {b : Byte} (hfix : b.extractLsb 7 4 = 0b1010#4 ∧ b.extractLsb 0 0 = 0#1) :
    b = promReadOpcode (b.extractLsb 3 1) := by
  rw [promReadOpcode_eq_append, ← hfix.1, ← hfix.2, append_promFields]

/-- Every instruction is what its opcode decodes to. -/
theorem decodeByte_opcode (i : Instr) : decodeByte i.opcode = .ok i := by
  rcases Machine.Instr.kinds i with rfl | ⟨c, o, rfl⟩ | rfl | ⟨k, rfl⟩
  · rfl
  · cases c <;> cases o <;> rfl
  · rfl
  · revert k
    decide

/-- Nothing but its opcode decodes to an instruction: each branch of the decoder fixes every bit of the byte. -/
theorem opcode_of_decodeByte {b : Byte} {i : Instr} (h : decodeByte b = .ok i) : i.opcode = b := by
  unfold decodeByte at h
  split_ifs at h with hreset hadc hconv hprom
  · cases h
    exact hreset.symm
  · cases h
    exact hadc.symm
  · cases hk : Osr.ofK (b.extractLsb 3 1) with
    | none => simp [hk] at h
    | some o =>
      rw [hk] at h
      cases h
      rw [opcode_convert, ← eq_convertOpcode hconv hk]
  · cases h
    exact (eq_promReadOpcode hprom).symm

theorem decodeByte_eq_ok_iff {b : Byte} {i : Instr} : decodeByte b = .ok i ↔ i.opcode = b :=
  ⟨opcode_of_decodeByte, fun h => h ▸ decodeByte_opcode i⟩

/-- A sequence decodes to what its first byte decodes to, and to the bytes after it (R53). -/
theorem decode_cons_eq_ok_iff {b : Byte} {rest rest' : List Byte} {i : Instr} :
    decode (b :: rest) = .ok (i, rest') ↔ decodeByte b = .ok i ∧ rest' = rest := by
  rw [decode]
  cases decodeByte b with
  | error e => simp
  | ok j => simp [eq_comm (a := rest)]

/-- An instruction is read back from its encoding, and what follows it is left (R53). -/
theorem decode_encode (i : Instr) (rest : List Byte) : decode (encode i ++ rest) = .ok (i, rest) :=
  decode_cons_eq_ok_iff.mpr ⟨decodeByte_opcode i, rfl⟩

/-- Settles O3: a byte decodes to the instruction whose opcode it is, and the encoding is that byte alone. -/
theorem decodeEncodeAgree : Obligations.DecodeEncodeAgree := by
  intro b rest rest' i
  rw [decode_cons_eq_ok_iff, decodeByte_eq_ok_iff, encode, List.singleton_inj]

/-- Settles O1: each of the seven bytes is the encoding of its instruction, which is read back. -/
theorem opcodeWordsDecode : Obligations.OpcodeWordsDecode :=
  ⟨decode_encode .reset [], decode_encode .adcRead [], decode_encode .convertD1Osr256 [],
    decode_encode .convertD1Osr4096 [], decode_encode .convertD2Osr512 [], decode_encode .convertD2Osr2048 [],
    decode_encode (.promRead 5#3) []⟩

/-! ## The opcode map (R58, R59) -/

/-- The rows that an instruction's opcode matches are its own row alone. -/
theorem opcodeRow (i : Instr) : Laws.OpcodeRow.Statement i := by
  cases i with
  | reset => exact Laws.OpcodeRow.reset
  | convertD1Osr256 => exact Laws.OpcodeRow.convertD1Osr256
  | convertD1Osr512 => exact Laws.OpcodeRow.convertD1Osr512
  | convertD1Osr1024 => exact Laws.OpcodeRow.convertD1Osr1024
  | convertD1Osr2048 => exact Laws.OpcodeRow.convertD1Osr2048
  | convertD1Osr4096 => exact Laws.OpcodeRow.convertD1Osr4096
  | convertD2Osr256 => exact Laws.OpcodeRow.convertD2Osr256
  | convertD2Osr512 => exact Laws.OpcodeRow.convertD2Osr512
  | convertD2Osr1024 => exact Laws.OpcodeRow.convertD2Osr1024
  | convertD2Osr2048 => exact Laws.OpcodeRow.convertD2Osr2048
  | convertD2Osr4096 => exact Laws.OpcodeRow.convertD2Osr4096
  | adcRead => exact Laws.OpcodeRow.adcRead
  | promRead k => exact Laws.OpcodeRow.promRead k

/-- A row that an instruction's opcode matches gives its mnemonic and its response length. -/
theorem row_of_matchesByte_opcode {r : OpcodeRow} {i : Instr} (hr : r ∈ opcodeMap) (h : r.matchesByte i.opcode = true) :
    r.mnemonic = i.mnemonic ∧ r.responseBytes = i.responseLength := by
  have hmem : (r.mnemonic, r.responseBytes) ∈ [(i.mnemonic, i.responseLength)] := by
    rw [← opcodeRow i]
    exact List.mem_map_of_mem (List.mem_filter.mpr ⟨hr, h⟩)
  simpa using hmem

/-- Some row of the map is the instruction's. -/
theorem exists_row_matchesByte_opcode (i : Instr) : ∃ r ∈ opcodeMap, r.matchesByte i.opcode = true := by
  have hmem : (i.mnemonic, i.responseLength) ∈ ((opcodeMap.filter fun r => r.matchesByte i.opcode).map
      fun r => (r.mnemonic, r.responseBytes)) := by
    rw [opcodeRow i]
    exact List.mem_singleton_self _
  obtain ⟨r, hr, -⟩ := List.mem_map.mp hmem
  exact ⟨r, List.mem_filter.mp hr⟩

/-- A mnemonic names one row. -/
theorem row_eq_of_mnemonic_eq {r r' : OpcodeRow} (hr : r ∈ opcodeMap) (hr' : r' ∈ opcodeMap)
    (h : r.mnemonic = r'.mnemonic) : r = r' := by
  have hnodup : (opcodeMap.map (·.mnemonic)).Nodup := by decide
  exact List.inj_on_of_nodup_map hnodup hr hr' h

theorem matchesByte_opcode_iff {r : OpcodeRow} (hr : r ∈ opcodeMap) (i : Instr) :
    r.matchesByte i.opcode = true ↔ i.mnemonic = r.mnemonic := by
  refine ⟨fun h => (row_of_matchesByte_opcode hr h).1.symm, fun h => ?_⟩
  obtain ⟨r', hr', hm⟩ := exists_row_matchesByte_opcode i
  have hrow : r = r' := row_eq_of_mnemonic_eq hr hr' (h.symm.trans (row_of_matchesByte_opcode hr' hm).1.symm)
  exact hrow ▸ hm

/-- A row of the map fixes every bit of its byte, or all but the PROM index (R58). -/
theorem mask_cases {r : OpcodeRow} (hr : r ∈ opcodeMap) :
    (r.mask = BitVec.allOnes 8 ∧ ∃ i, decodeByte r.pattern = .ok i) ∨ (r.mask = 0xF1#8 ∧ r.pattern = 0xA0#8) := by
  have hrows : ∀ r ∈ opcodeMap, (r.mask = BitVec.allOnes 8 ∧ (decodeByte r.pattern).toOption.isSome = true) ∨
      (r.mask = 0xF1#8 ∧ r.pattern = 0xA0#8) := by decide
  refine (hrows r hr).imp_left fun ⟨hmask, hsome⟩ => ⟨hmask, ?_⟩
  cases hd : decodeByte r.pattern with
  | ok i => exact ⟨i, rfl⟩
  | error e => simp [hd, Except.toOption] at hsome

/-- The fixed fields of F-PROM are the bits under the mask 0xF1 (R54, R58). -/
theorem promFields_of_mask {b : Byte} (h : b &&& 0xF1#8 = 0xA0#8) :
    b.extractLsb 7 4 = 0b1010#4 ∧ b.extractLsb 0 0 = 0#1 := by
  have hhigh : (b &&& 0xF1#8).extractLsb 7 4 = b.extractLsb 7 4 := by
    rw [BitVec.extractLsb_and]; exact BitVec.and_allOnes
  have hlow : (b &&& 0xF1#8).extractLsb 0 0 = b.extractLsb 0 0 := by
    rw [BitVec.extractLsb_and]; exact BitVec.and_allOnes
  rw [← hhigh, ← hlow, h]
  exact ⟨rfl, rfl⟩

/-- A byte that matches a row is an opcode. -/
theorem exists_opcode_of_matchesByte {r : OpcodeRow} {b : Byte} (hr : r ∈ opcodeMap) (h : r.matchesByte b = true) :
    ∃ i : Instr, i.opcode = b := by
  rw [OpcodeRow.matchesByte, beq_iff_eq] at h
  rcases mask_cases hr with ⟨hmask, i, hi⟩ | ⟨hmask, hpattern⟩
  · rw [hmask, BitVec.and_allOnes] at h
    exact ⟨i, h ▸ opcode_of_decodeByte hi⟩
  · rw [hmask, hpattern] at h
    exact ⟨.promRead (b.extractLsb 3 1), (eq_promReadOpcode (promFields_of_mask h)).symm⟩

/-- Settles O2: a byte that matches a row is an opcode, and an opcode matches its mnemonic's row alone. -/
theorem decoderFollowsOpcodeMap : Obligations.DecoderFollowsOpcodeMap := by
  intro b r hr
  refine ⟨⟨fun h => ?_, ?_⟩, ?_⟩
  · obtain ⟨i, rfl⟩ := exists_opcode_of_matchesByte hr h
    exact ⟨i, decodeByte_opcode i, (matchesByte_opcode_iff hr i).mp h⟩
  · rintro ⟨i, hi, hm⟩
    rw [← opcode_of_decodeByte hi]
    exact (matchesByte_opcode_iff hr i).mpr hm
  · intro i _ hm
    exact (row_of_matchesByte_opcode hr ((matchesByte_opcode_iff hr i).mpr hm)).2.symm

/-- The command bytes are the opcodes (R59). -/
theorem isCommandByte_iff {b : Byte} : isCommandByte b = true ↔ ∃ i : Instr, i.opcode = b := by
  rw [isCommandByte, List.any_eq_true]
  constructor
  · rintro ⟨r, hr, h⟩
    exact exists_opcode_of_matchesByte hr h
  · rintro ⟨i, rfl⟩
    exact exists_row_matchesByte_opcode i

/-- 256 bytes less the 20 commands (R59): the map is run on every byte. -/
theorem length_reservedBytes :
    ((List.range 256).filter fun n => !isCommandByte (BitVec.ofNat 8 n)).length = 236 := by
  decide +kernel

end Sys2Proof

/-! ## Single command bytes (R59, R126) -/

namespace Sys2Proof.Machine

/-- A byte that decodes is run as its instruction, and nothing else happens. -/
theorem sendCommand_of_decode {b : Byte} {i : Instr} {rest : List Byte} (h : decode [b] = .ok (i, rest)) (s : State) :
    sendCommand b s = exec i s := by
  rw [sendCommand, h]

theorem sendCommand_opcode (i : Instr) (s : State) : sendCommand i.opcode s = exec i s :=
  sendCommand_of_decode (decode_encode i []) s

/-- A byte that is no command is refused by name (R126). -/
theorem sendCommand_reserved {b : Byte} (h : isCommandByte b = false) (s : State) :
    sendCommand b s = .refused (.illegalCommand b) := by
  rw [sendCommand]
  cases hd : decode [b] with
  | error e => rfl
  | ok p =>
    have hb := (decode_cons_eq_ok_iff.mp hd).1
    have hcommand : isCommandByte b = true := isCommandByte_iff.mpr ⟨p.1, opcode_of_decodeByte hb⟩
    rw [h] at hcommand
    cases hcommand

/-- A step at a scripted byte sends it from the state without that event. -/
theorem step_command {s : State} {b : Byte} {rest : List Event} (hf : s.fault = none)
    (hs : s.schedule = .command b :: rest) : step s = sendCommand b { s with schedule := rest } :=
  step_scheduled hf hs

/-- A command on a block without a fault gives a next state: a fault it raises, a failed transfer, or its writes. -/
theorem exec_total {s : State} (i : Instr) (hf : s.fault = none) : ∃ t, exec i s = .next t := by
  rcases exec_cases i s with ⟨k, hk, -⟩ | ⟨-, k, -, he⟩ | ⟨-, -, -, he⟩ | ⟨-, -, rx, -, he⟩
  · rw [hf] at hk
    cases hk
  · exact ⟨_, he⟩
  · exact ⟨_, he⟩
  · exact ⟨_, he⟩

/-- Settles O4: the command bytes are the opcodes, whose instructions run; no other byte decodes. -/
theorem reservedBytesRefused : Obligations.ReservedBytesRefused := by
  refine ⟨length_reservedBytes, fun s b rest hf hs => ?_⟩
  rw [step_command hf hs]
  refine ⟨fun h => sendCommand_reserved h _, fun h => ?_⟩
  obtain ⟨i, rfl⟩ := isCommandByte_iff.mp h
  rw [sendCommand_opcode]
  exact exec_total i hf

/-- Settles O8: the step sends the byte, and sending it is `exec` of what it decodes to. -/
theorem stepRunsSingleCommand : Obligations.StepRunsSingleCommand := by
  intro s b rest i hf hs hd
  rw [step_command hf hs, sendCommand_of_decode hd]

/-- A table word decodes as the byte it stands for. -/
theorem decode_of_decodeTableWord {n w : Nat} {i : Instr} (h : decodeTableWord n w = some i) :
    ∃ rest, decode [tableByte n w] = .ok (i, rest) := by
  rw [decodeTableWord] at h
  cases hd : decode [tableByte n w] with
  | error e => simp [hd] at h
  | ok p =>
    rw [hd] at h
    cases h
    exact ⟨p.2, rfl⟩

/-- Settles O9: the placed word is the event the step takes, and without it the state is the one it was placed in. -/
theorem placedWordIsRun : Obligations.PlacedWordIsRun := by
  intro s w i hf hd
  obtain ⟨rest, hdec⟩ := decode_of_decodeTableWord hd
  have hstep : step (s.withFetchWord 8 w) = sendCommand (tableByte 8 w) s :=
    step_command (s := s.withFetchWord 8 w) hf (s.withFetchWord_schedule 8 w)
  rw [hstep, sendCommand_of_decode hdec]

end Sys2Proof.Machine

/-! ## The calibration store (R64, R65, R67, R68) -/

namespace Sys2Proof.Machine

open Sys2Proof.Safety

/-! ### PROM_READ -/

/-- A command whose two conditions of R72 hold, and whose transfer is answered, performs its writes from the answer. -/
theorem exec_of_answer {i : Instr} {s : State} {echo : Byte} {sample : U24} (hf : s.fault = none)
    (hctl : ctlCondition i s) (htime : timeCondition i s) (ha : s.nextAnswer = .answer echo sample) :
    exec i s = .next (execWrites i s (echo :: answerPayload i sample s.prom)
      (s.transferred i (activityAfter i s.now s.activity))) := by
  have hg : execGuard i s = none := (execGuard_eq_none i s).mpr ⟨hctl, htime⟩
  rw [exec_eq_command, command.eq_def, hf, hg, response_of_answer ha]

/-- Settles O18: the answered PROM_READ stages the word assembled from the response, which is the sensor's PROM word. -/
theorem promReadCommand : Obligations.PromReadCommand := by
  intro s k echo sample hf hctl htime ha
  have hw : promWordOf (echo :: answerPayload (.promRead k) sample s.prom) = s.prom.word k :=
    promWordOf_response (response_of_answer ha)
  rw [exec_of_answer (i := .promRead k) hf hctl (.inr htime) ha, execWrites, hw]
  rfl

/-! ### LOAD_BEGIN and LOAD_COMMIT -/

/-- Settles O21: step 0 of initialize is LOAD_BEGIN, which is not the last step. -/
theorem loadBeginClearsCalibration : Obligations.LoadBeginClearsCalibration := by
  intro s rest hf hs hmpc
  have hstep : step s = .next ({ s with schedule := rest } : State).loadBegin.advance :=
    step_micro (m := .loadBegin) hf hs (by simp [hmpc]) (by simp [hmpc, sequence])
  rw [hstep, State.advance_mpc_next _ (by simp [hmpc, sequence])]
  simp [State.loadBegin, hmpc]

/-- Cells that hold eight words hold them all. -/
theorem allWords_eq_some {cells : Cells} {words : Vector U16 8} (h : ∀ j : Fin 8, cells[j] = some words[j]) :
    allWords cells = some words := by
  have hcells : cells = words.map some := by
    ext1 j hj
    simpa using h ⟨j, hj⟩
  subst hcells
  simp only [allWords, Vector.getElem_map, Option.some.injEq]
  ext1 j hj
  interval_cases j <;> rfl

/-- LOAD_COMMIT of eight staged words, by whether the block accepts them (R68). -/
theorem loadCommit_of_allWords {s : State} {words : Vector U16 8} (h : allWords s.stage = some words) :
    loadCommit s = .next (if crcAccepts s.config words then { s with cal := s.stage, calValid := true }
      else s.returnErr .crcMismatch) := by
  rw [loadCommit, h]
  exact (apply_ite Host.Outcome.next _ _ _).symm

/-- A table is accepted outside the strict mode, or when CRC_CHECK accepts it (R68, R69). -/
theorem crcAccepts_iff {g : Configuration} {words : Vector U16 8} :
    crcAccepts g words = true ↔ g.strictCrc = false ∨ Config.crcCheck words = true := by
  simp [crcAccepts]

/-- Settles O22: step 11 of initialize is LOAD_COMMIT, the last step: a commit is followed by Ok, and an error has ended the
operation already. -/
theorem loadCommitReplacesCalibration : Obligations.LoadCommitReplacesCalibration := by
  intro s rest words hf hs hmpc hstage
  have hcommit := loadCommit_of_allWords (s := { s with schedule := rest }) (allWords_eq_some hstage)
  rw [step_micro (m := .loadCommit) hf hs (by simp [hmpc]) (by simp [hmpc, sequence]), performMicroStep_loadCommit hcommit]
  simp only [crcAccepts_iff]
  split
  · rw [advanceUnlessEnded_running, State.advance_mpc_last]
    · simp [hmpc, OpName.caller]
    · simp [hmpc, sequence]
    · exact hf
    · simp [hmpc]
  · rw [advanceUnlessEnded_ended rfl]
    simp [State.returnErr, hmpc, OpName.caller]

/-! ### An initialize that ends with an error

An error comes from a micro-step's own writes, never from its completion, which returns Ok or nothing; and the micro-steps that
can return one leave the calibration as it was. -/

theorem returned_advance_ne_err (s : State) (w : Caller) (k : ErrorKind) :
    s.advance.returned ≠ s.returned ++ [⟨w, .err k⟩] := by
  unfold State.advance
  split <;> simp

theorem returned_waitStep_ne_err (s : State) (w : Caller) (k : ErrorKind) :
    s.waitStep.returned ≠ s.returned ++ [⟨w, .err k⟩] := by
  unfold State.waitStep
  split
  · exact returned_advance_ne_err s w k
  · simp

theorem returned_advanceUnlessEnded_ne_err (s : State) (w : Caller) (k : ErrorKind) :
    s.advanceUnlessEnded.returned ≠ s.returned ++ [⟨w, .err k⟩] := by
  unfold State.advanceUnlessEnded
  split
  · exact returned_advance_ne_err s w k
  · simp

/-- Among a step's writes only a failed transfer's returns a result (R129). -/
theorem returned_of_written {s u v : State} (h : Written s u v) :
    v.returned = u.returned ∨ ∃ i, v = (u.transferred i .unknown).transportFailure := by
  cases h with
  | failed i => exact .inr ⟨i, rfl⟩
  | _ => exact .inl (by simp)

/-- `t` ends the operation of `s` with Err(k) and the calibration as it was; a failed transfer leaves CTL at NeedsReset. -/
def EndsWithErr (s : State) (k : ErrorKind) (t : State) : Prop :=
  t.mpc = ⟨.none, 0⟩ ∧ t.cal = s.cal ∧ t.calValid = s.calValid ∧ (k = .transportFailure → t.ctl = .needsReset)

/-- An error the block itself returns ends the operation, and completing the micro-step then adds nothing (R71, R127). -/
theorem endsWithErr_returnErr {s : State} {w : Caller} {k k' : ErrorKind} (hk : k' ≠ .transportFailure)
    (hr : (s.returnErr k').advanceUnlessEnded.returned = s.returned ++ [⟨w, .err k⟩]) :
    EndsWithErr s k (s.returnErr k').advanceUnlessEnded := by
  rw [advanceUnlessEnded_ended rfl] at hr ⊢
  obtain ⟨-, hkk⟩ : s.mpc.op.caller = w ∧ k' = k := by simpa using List.append_cancel_left hr
  exact ⟨rfl, rfl, rfl, fun h => absurd (hkk.trans h) hk⟩

/-- A micro-step that returns an error ends its operation and leaves the calibration as it was (R127). -/
theorem performMicroStep_endsWithErr {s u t : State} {m : MicroStep} {w : Caller} {k : ErrorKind}
    (hm : s.currentMicroStep = some m) (h : performMicroStep m u = .next t)
    (hr : t.returned = u.returned ++ [⟨w, .err k⟩]) : m ≠ .loadBegin ∧ EndsWithErr u k t := by
  rcases performMicroStep_next h with ⟨i, v, rfl, hv, rfl⟩ | ⟨rfl, rfl⟩ | ⟨rfl, rfl⟩ | ⟨rfl, rfl⟩ | ⟨rfl, v, hv, rfl⟩ |
    ⟨rfl, v, hv, rfl⟩
  · refine ⟨by simp, ?_⟩
    rcases returned_of_written (exec_written (.inr hm) hv) with hsame | ⟨j, rfl⟩
    · rw [← hsame] at hr
      exact absurd hr (returned_advanceUnlessEnded_ne_err v w k)
    · rw [advanceUnlessEnded_ended rfl]
      exact ⟨rfl, rfl, rfl, fun _ => rfl⟩
  · exact absurd hr (returned_waitStep_ne_err u w k)
  · refine ⟨by simp, ?_⟩
    rcases beginCycle_cases u with ⟨-, he⟩ | ⟨-, -, he⟩ | ⟨-, -, he⟩ | ⟨-, -, he⟩ <;> rw [he] at hr ⊢
    · exact endsWithErr_returnErr (by simp) hr
    · exact endsWithErr_returnErr (by simp) hr
    · exact absurd hr (returned_advanceUnlessEnded_ne_err _ w k)
    · exact absurd hr (returned_advanceUnlessEnded_ne_err _ w k)
  · exact absurd hr (returned_advance_ne_err u.loadBegin w k)
  · refine ⟨by simp, ?_⟩
    obtain ⟨-, rfl | rfl⟩ := loadCommit_next hv
    · exact absurd hr (returned_advanceUnlessEnded_ne_err _ w k)
    · exact endsWithErr_returnErr (by simp) hr
  · obtain ⟨_, _, _, -, -, -, rfl⟩ := compensateStep_next hv
    exact absurd hr (returned_advanceUnlessEnded_ne_err _ w k)

/-- Step 0 of initialize is LOAD_BEGIN, so any other micro-step stands later (R114). -/
theorem one_le_idx_of_initialise {s : State} {m : MicroStep} (hop : s.mpc.op = .initialise)
    (hm : s.currentMicroStep = some m) (hne : m ≠ .loadBegin) : 1 ≤ s.mpc.idx := by
  rw [Nat.one_le_iff_ne_zero]
  intro hidx
  rw [State.currentMicroStep, hop, hidx] at hm
  cases hm
  exact hne rfl

/-- From step 1 of initialize on a consistent state holds no calibration word (R18, R21). -/
theorem no_calibration_of_initialise {s : State} (hs : consistent s) (hop : s.mpc.op = .initialise)
    (hidx : 1 ≤ s.mpc.idx) : s.calValid = false ∧ ∀ j : Fin 8, s.cal[j] = none := by
  obtain ⟨-, hloc, -, hnone⟩ := hs
  have hinit : inInitialize s := by simpa [located, hop] using hloc
  obtain ⟨-, hvalid, -⟩ := hinit
  exact ⟨hvalid hidx, hnone (hvalid hidx)⟩

/-- Settles O50: the error is a micro-step's, past LOAD_BEGIN, where a consistent state holds no calibration, and it leaves the
calibration so. -/
theorem failedInitializeLeavesNoCalibration : Obligations.FailedInitializeLeavesNoCalibration := by
  intro s t k hs ho hop hstep hr
  obtain ⟨-, u, hu, hh⟩ := step_cases hstep
  rw [← hu.returned] at hr
  cases hh with
  | time d eq => simp [eq, State.elapse] at hr
  | read r eq => cases r <;> simp [eq, State.readOut, Readout.caller] at hr
  | idle op _ => simp [hop] at op
  | start op _ _ _ => simp [hop] at op
  | answer op _ _ => simp [hop] at op
  | single b mem _ _ _ => exact absurd mem (ho b)
  | micro _ m cur run _ =>
    obtain ⟨hne, hmpc, hcal, hvalid, hctl⟩ := performMicroStep_endsWithErr cur run hr
    have hnone := no_calibration_of_initialise hs hop (one_le_idx_of_initialise hop cur hne)
    rw [← hu.cal, ← hu.calValid, ← hcal, ← hvalid] at hnone
    exact ⟨hmpc, hnone.1, hnone.2, hctl⟩

end Sys2Proof.Machine

/-! ## The commands (R72, R74, R75, R76, R87, R129) -/

namespace Sys2Proof.Machine

open Sys2Proof.Safety

/-! ### What the writes of a command leave alone -/

section

variable (i : Instr) (s : State) (rx : List Byte) (t : State)

@[simp] theorem execWrites_cal : (execWrites i s rx t).cal = t.cal := by cases i <;> simp [execWrites]
@[simp] theorem execWrites_calValid : (execWrites i s rx t).calValid = t.calValid := by cases i <;> simp [execWrites]
@[simp] theorem execWrites_last : (execWrites i s rx t).last = t.last := by cases i <;> simp [execWrites]
@[simp] theorem execWrites_fault : (execWrites i s rx t).fault = t.fault := by cases i <;> simp [execWrites]
@[simp] theorem execWrites_mpc : (execWrites i s rx t).mpc = t.mpc := by cases i <;> simp [execWrites]
@[simp] theorem execWrites_config : (execWrites i s rx t).config = t.config := by cases i <;> simp [execWrites]
@[simp] theorem execWrites_prom : (execWrites i s rx t).prom = t.prom := by cases i <;> simp [execWrites]
@[simp] theorem execWrites_now : (execWrites i s rx t).now = t.now := by cases i <;> simp [execWrites]
@[simp] theorem execWrites_schedule : (execWrites i s rx t).schedule = t.schedule := by cases i <;> simp [execWrites]
@[simp] theorem execWrites_calls : (execWrites i s rx t).calls = t.calls := by cases i <;> simp [execWrites]
@[simp] theorem execWrites_sent : (execWrites i s rx t).sent = t.sent := by cases i <;> simp [execWrites]

end

/-- A staged word is put into the cell of its own index only (R65). -/
theorem setStage_getElem_ne {s : State} {k : U3} {w : U16} {j : Fin 8} (h : k ≠ BitVec.ofNat 3 j) :
    (s.setStage k w).stage[j] = s.stage[j] := by
  have hne : k.toNat ≠ j.val := by
    intro hk
    rw [← hk, BitVec.ofNat_toNat, BitVec.setWidth_eq] at h
    exact h rfl
  simp [hne]

/-- STAGE is a PROM_READ's, at its index. -/
theorem execWrites_stage {i : Instr} {s t : State} {rx : List Byte} {j : Fin 8} (h : i ≠ .promRead (BitVec.ofNat 3 j)) :
    (execWrites i s rx t).stage[j] = t.stage[j] := by
  rcases Instr.kinds i with rfl | ⟨ch, o, rfl⟩ | rfl | ⟨k, rfl⟩
  · rfl
  · rw [execWrites_convert, State.convertDone_stage]
  · rw [execWrites, State.storeSample_stage]
  · exact setStage_getElem_ne fun hk => h (congrArg Instr.promRead hk)

/-- D1 and D2 are ADC_READ's. -/
theorem execWrites_samples {i : Instr} {s t : State} {rx : List Byte} (h : i ≠ .adcRead) :
    (execWrites i s rx t).d1 = t.d1 ∧ (execWrites i s rx t).d2 = t.d2 := by
  rcases Instr.kinds i with rfl | ⟨ch, o, rfl⟩ | rfl | ⟨k, rfl⟩
  · exact ⟨rfl, rfl⟩
  · rw [execWrites_convert]
    exact ⟨rfl, rfl⟩
  · exact absurd rfl h
  · exact ⟨rfl, rfl⟩

/-- READY_AT is RESET's and CONVERT's. -/
theorem execWrites_readyAt {i : Instr} {s t : State} {rx : List Byte} (h1 : i ≠ .reset) (h2 : ¬ isConvert i) :
    (execWrites i s rx t).readyAt = t.readyAt := by
  rcases Instr.kinds i with rfl | ⟨ch, o, rfl⟩ | rfl | ⟨k, rfl⟩
  · exact absurd rfl h1
  · exact absurd ⟨ch, o, rfl⟩ h2
  · exact State.storeSample_readyAt _ _ _
  · rfl

/-- A PROM_READ does not write CTL. -/
theorem execWrites_ctl (i : Instr) (s : State) (rx : List Byte) (t : State) :
    (execWrites i s rx t).ctl = t.ctl ∨ i = .reset ∨ isConvert i ∨ i = .adcRead := by
  rcases Instr.kinds i with rfl | ⟨ch, o, rfl⟩ | rfl | ⟨k, rfl⟩
  · exact .inr (.inl rfl)
  · exact .inr (.inr (.inl ⟨ch, o, rfl⟩))
  · exact .inr (.inr (.inr rfl))
  · exact .inl rfl

/-- Settles O20: a fault writes FAULT alone, a failed transfer CTL, MPC and the sensor's side, and an answered one what the command's
own writes say. -/
theorem commandFrame : Obligations.CommandFrame := by
  intro i s t h
  obtain ⟨-, ⟨k, -, rfl⟩ | ⟨-, -, rfl⟩ | ⟨-, rx, -, rfl⟩⟩ := exec_next h
  · simp
  · simp [failedState, sentState]
  · refine ⟨by simp, by simp, by simp, by simp, by simp, by simp, by simp, by simp, fun j hj => execWrites_stage hj,
      execWrites_samples, execWrites_readyAt, .inl (by simp), ?_⟩
    exact (execWrites_ctl i s rx _).imp_right .inr

/-! ### The guard table -/

/-- A guard that fails raises its fault, and nothing else happens (R72). -/
theorem exec_of_guard {i : Instr} {s : State} {k : FaultKind} (hf : s.fault = none) (hg : execGuard i s = some k) :
    exec i s = .next (s.raise k) := by
  rw [exec_eq_command, command.eq_def, hf, hg]

/-- A command whose byte is on the bus log got past its guard (R72, R47). -/
theorem sent_of_exec {i : Instr} {s t : State} (h : exec i s = .next t) :
    (∃ k, execGuard i s = some k ∧ t = s.raise k) ∨
    (execGuard i s = none ∧ t.fault = none ∧ t.now = s.now ∧ t.sent = s.sent ++ encode i) := by
  obtain ⟨hf, ⟨k, hg, rfl⟩ | ⟨hg, -, rfl⟩ | ⟨hg, rx, -, rfl⟩⟩ := exec_next h
  · exact .inl ⟨k, hg, rfl⟩
  · exact .inr ⟨hg, hf, rfl, rfl⟩
  · exact .inr ⟨hg, by simp [hf], by simp, by simp⟩

/-- ADC_READ's condition on CTL and the samples is that a result is pending (R72). -/
theorem ctlCondition_adcRead {s : State} : ctlCondition .adcRead s ↔ s.adcDestination ≠ none := by
  have hcases : ctlCondition .adcRead s ↔ s.adcDestination = some .d1 ∨ s.adcDestination = some .d2 := by
    rw [adcDestination_eq_d1, adcDestination_eq_d2]
    rfl
  rw [hcases]
  match s.adcDestination with
  | none => simp
  | some .d1 => simp
  | some .d2 => simp

/-- Every guard but RESET's, which has none, is the two conditions of its row (R72). -/
theorem execGuard_eq_guardOf {i : Instr} (s : State) (h : i ≠ .reset) :
    ∃ c : Bool, (c = true ↔ ctlCondition i s) ∧ execGuard i s = guardOf c s.timeReached (lateFault i) := by
  cases i with
  | reset => exact absurd rfl h
  | adcRead => exact ⟨_, Option.isSome_iff_ne_none.trans ctlCondition_adcRead.symm, rfl⟩
  | _ =>
    refine ⟨_, ?_, rfl⟩
    exact decide_eq_true_iff

/-- The CTL fault is raised whatever the time (R72, R131). -/
theorem execGuard_of_not_ctl {i : Instr} {s : State} (hctl : ¬ ctlCondition i s) :
    execGuard i s = some .sequenceViolation := by
  have hi : i ≠ .reset := fun hr => hctl (hr ▸ trivial)
  obtain ⟨c, hc, hg⟩ := execGuard_eq_guardOf s hi
  have hfalse : c = false := Bool.eq_false_iff.mpr fun h => hctl (hc.mp h)
  simp [hg, guardOf, hfalse]

/-- With the CTL condition met, a command too early raises the fault of its last column (R72). -/
theorem execGuard_of_early {i : Instr} {s : State} (hctl : ctlCondition i s) (htime : ¬ timeCondition i s) :
    execGuard i s = some (lateFault i) := by
  obtain ⟨hi, hearly⟩ := not_or.mp htime
  obtain ⟨c, hc, hg⟩ := execGuard_eq_guardOf s hi
  have htrue : c = true := hc.mpr hctl
  simp [hg, guardOf, htrue, State.timeReached, hearly]

/-- Settles O11: a failed guard is raised before anything else, and past the guard the byte is sent, whatever the answer. -/
theorem guardTable : Obligations.GuardTable := by
  intro i s hf
  refine ⟨fun hctl => exec_of_guard hf (execGuard_of_not_ctl hctl),
    fun hctl htime => exec_of_guard hf (execGuard_of_early hctl htime), fun hctl htime => ?_⟩
  have hg : execGuard i s = none := (execGuard_eq_none i s).mpr ⟨hctl, htime⟩
  obtain ⟨t, ht⟩ := exec_total i hf
  rcases sent_of_exec ht with ⟨k, hk, -⟩ | ⟨-, hfault, -, hsent⟩
  · rw [hg] at hk
    cases hk
  · exact ⟨t, ht, hfault, hsent⟩

/-! ### The commands that complete -/

/-- Settles O14: RESET has no guard, and its writes are the two registers named. -/
theorem resetCommand : Obligations.ResetCommand :=
  fun _ _ _ hf ha => exec_of_answer (i := .reset) hf trivial (.inl rfl) ha

/-- A CONVERT with ch = 0 waits for Idle, at every OSR (R72). -/
theorem ctlCondition_convert_d1 {o : Osr} {s : State} : ctlCondition (Instr.convert .d1 o) s ↔ s.ctl = .idle := by
  cases o <;> rfl

/-- A CONVERT with ch = 1 waits for PressureConverting with D1 held, at every OSR (R72). -/
theorem ctlCondition_convert_d2 {o : Osr} {s : State} :
    ctlCondition (Instr.convert .d2 o) s ↔ s.ctl = .pressureConverting ∧ s.d1 ≠ none := by
  cases o <;> rfl

/-- An answered CONVERT, whatever its channel and OSR (R76: one semantics, ten opcodes). -/
theorem exec_convert_of_answer {ch : Channel} {o : Osr} {s : State} {echo : Byte} {sample : U24} (hf : s.fault = none)
    (hctl : ctlCondition (Instr.convert ch o) s) (htime : s.readyAt ≤ s.now) (ha : s.nextAnswer = .answer echo sample) :
    exec (Instr.convert ch o) s
      = .next ((sentState (convertOpcode ch o) (.converting ch o s.now) s).convertDone ch o) := by
  rw [exec_of_answer hf hctl (.inr htime) ha, execWrites_convert, activityAfter_convert, ← opcode_convert]
  rfl

theorem convertD1Completes_convert (o : Osr) :
    convertD1Completes (Instr.convert .d1 o) o (convertOpcode .d1 o) (tConv · o) :=
  fun _ _ _ hf hctl htime ha => exec_convert_of_answer hf (ctlCondition_convert_d1.mpr hctl) htime ha

theorem convertD2Completes_convert (o : Osr) :
    convertD2Completes (Instr.convert .d2 o) o (convertOpcode .d2 o) (tConv · o) :=
  fun _ _ _ hf hctl h1 htime ha => exec_convert_of_answer hf (ctlCondition_convert_d2.mpr ⟨hctl, h1⟩) htime ha

/-- Settles O15: the table's bytes and delays are those of the one CONVERT at each OSR. -/
theorem convertD1Commands : Obligations.ConvertD1Commands :=
  ⟨convertD1Completes_convert .osr256, convertD1Completes_convert .osr512, convertD1Completes_convert .osr1024,
    convertD1Completes_convert .osr2048, convertD1Completes_convert .osr4096⟩

/-- Settles O16: as for D1, at the other channel. -/
theorem convertD2Commands : Obligations.ConvertD2Commands :=
  ⟨convertD2Completes_convert .osr256, convertD2Completes_convert .osr512, convertD2Completes_convert .osr1024,
    convertD2Completes_convert .osr2048, convertD2Completes_convert .osr4096⟩

/-- An answered ADC_READ with a result pending stores the measurement where it belongs (R39, R87). -/
theorem exec_adcRead_of_answer {s : State} {echo : Byte} {sample : U24} (hf : s.fault = none)
    (hd : s.adcDestination ≠ none) (htime : s.readyAt ≤ s.now) (ha : s.nextAnswer = .answer echo sample) :
    exec .adcRead s = .next ((sentState 0x00#8 .quiet s).storeSample s.adcDestination sample) := by
  rw [exec_of_answer hf (ctlCondition_adcRead.mpr hd) (.inr htime) ha, execWrites, sampleOf_answer]
  rfl

/-- Settles O17: in each converting state the sample that is none is the destination. -/
theorem adcReadCommand : Obligations.AdcReadCommand := by
  intro s echo sample hf htime ha
  refine ⟨fun hctl h1 => ?_, fun hctl h2 => ?_⟩
  · have hd : s.adcDestination = some .d1 := adcDestination_eq_d1.mpr ⟨hctl, h1⟩
    rw [exec_adcRead_of_answer hf (by simp [hd]) htime ha, hd]
    rfl
  · have hd : s.adcDestination = some .d2 := adcDestination_eq_d2.mpr ⟨hctl, h2⟩
    rw [exec_adcRead_of_answer hf (by simp [hd]) htime ha, hd]
    rfl

end Sys2Proof.Machine

/-! ## The micro-steps of the sequencer (R71, R89, R90) -/

namespace Sys2Proof.Machine

open Sys2Proof.Safety

/-- A completed micro-step, in the terms of the operation and sequence that were in progress before it (R71). -/
theorem advanceUnlessEnded_of_same {s t : State} (hc : t.config = s.config) (hm : t.mpc = s.mpc ∨ t.mpc = ⟨.none, 0⟩) :
    t.advanceUnlessEnded =
      if t.fault ≠ none ∨ t.mpc.op = .none then t
      else if s.mpc.idx + 1 < (sequence s.config s.mpc.op).length then { t with mpc := ⟨s.mpc.op, s.mpc.idx + 1⟩ }
      else { t with mpc := ⟨.none, 0⟩, returned := t.returned ++ [⟨s.mpc.op.caller, .ok⟩] } := by
  by_cases hend : t.fault ≠ none ∨ t.mpc.op = .none
  · rw [if_pos hend, State.advanceUnlessEnded, if_neg (by tauto)]
  · obtain ⟨hf, hop⟩ := not_or.mp hend
    have hsame : t.mpc = s.mpc := hm.resolve_right fun h => hop (by rw [h])
    rw [if_neg hend, advanceUnlessEnded_running (not_not.mp hf) hop, State.advance, hc, hsame]

/-- Settles O10: the micro-step is `exec` and then its completion, and no command touches the sequence or moves MPC on. -/
theorem stepRunsMicroStepCommand : Obligations.StepRunsMicroStepCommand := by
  intro s rest i hf hs hop hm
  obtain ⟨t, ht⟩ := exec_total (s := { s with schedule := rest }) i hf
  refine ⟨t, ht, ?_⟩
  obtain ⟨-, -, -, hconfig, -, -, -, -, -, -, -, hmpc, -⟩ := commandFrame i _ t ht
  rw [step_micro hf hs hop hm, performMicroStep_command ht, advanceUnlessEnded_of_same hconfig hmpc]

/-! ### WAIT -/

/-- Before READY_AT the WAIT holds: nothing changes (R89). -/
theorem waitStep_early {s : State} (h : s.now < s.readyAt) : s.waitStep = s :=
  if_neg fun hready => absurd (of_decide_eq_true hready) h.not_ge

/-- From READY_AT on the WAIT completes (R89). -/
theorem waitStep_ready {s : State} (h : s.readyAt ≤ s.now) : s.waitStep = s.advance :=
  if_pos (decide_eq_true h)

/-- Settles O23: the step is WAIT's, which holds or completes by the time; step 1 of reset is its sequence's last. -/
theorem waitHoldsUntilReady : Obligations.WaitHoldsUntilReady := by
  intro s rest hf hs hop hm
  have hstep : step s = .next ({ s with schedule := rest } : State).waitStep := step_micro hf hs hop hm
  have hdone (hready : s.readyAt ≤ s.now) : step s = .next ({ s with schedule := rest } : State).advance :=
    hstep.trans (congrArg _ (waitStep_ready hready))
  have hlast (hready : s.readyAt ≤ s.now) (hlen : (sequence s.config s.mpc.op).length ≤ s.mpc.idx + 1) :
      step s = .next { s with
        schedule := rest
        mpc := ⟨.none, 0⟩
        returned := s.returned ++ [⟨s.mpc.op.caller, .ok⟩] } :=
    (hdone hready).trans (congrArg _ (State.advance_mpc_last _ hlen.not_gt))
  refine ⟨fun hearly => ?_, fun hready hlen => ?_, hlast, fun hready hmpc => ?_⟩
  · exact hstep.trans (congrArg _ (waitStep_early hearly))
  · exact (hdone hready).trans (congrArg _ (State.advance_mpc_next _ hlen))
  · rw [hlast hready (by simp [hmpc, sequence]), hmpc]
    rfl

/-! ### BEGIN_CYCLE -/

theorem beginCycle_not_calibrated {s : State} (hv : s.calValid = false) : s.beginCycle = s.returnErr .notCalibrated :=
  if_pos hv

theorem beginCycle_needsReset {s : State} (hv : s.calValid = true) (hctl : s.ctl = .needsReset) :
    s.beginCycle = s.returnErr .needsReset := by
  simp [State.beginCycle, hv, hctl]

theorem beginCycle_converting {s : State} (hv : s.calValid = true)
    (hctl : s.ctl = .pressureConverting ∨ s.ctl = .temperatureConverting) : s.beginCycle = s.raise .sequenceViolation := by
  rcases hctl with hctl | hctl <;> simp [State.beginCycle, hv, hctl]

theorem beginCycle_ready {s : State} (hv : s.calValid = true) (hctl : s.ctl = .idle ∨ s.ctl = .done) :
    s.beginCycle = { s with ctl := .idle, d1 := none, d2 := none } := by
  rcases hctl with hctl | hctl <;> simp [State.beginCycle, hv, hctl]

/-- A block whose FAULT is set is left as it is (R71, R128). -/
theorem advanceUnlessEnded_faulted {s : State} (hf : s.fault ≠ none) : s.advanceUnlessEnded = s :=
  if_neg fun h => hf h.1

/-- Settles O24: step 0 of readCycle is BEGIN_CYCLE; its errors end the operation and its fault holds it, so that only a new cycle
moves on to step 1. -/
theorem beginCycleChecks : Obligations.BeginCycleChecks := by
  intro s rest hf hs hmpc
  have hstep {v : State} (hv : ({ s with schedule := rest } : State).beginCycle = v) : step s = .next v.advanceUnlessEnded :=
    hv ▸ step_micro (m := .beginCycle) hf hs (by simp [hmpc]) (by simp [hmpc, sequence])
  refine ⟨fun hv => ?_, fun hv hctl => ?_, fun hv hctl => ?_, fun hv hctl => ?_⟩
  · rw [hstep (beginCycle_not_calibrated hv), advanceUnlessEnded_ended rfl]
    simp [State.returnErr, hmpc, OpName.caller]
  · rw [hstep (beginCycle_needsReset hv hctl), advanceUnlessEnded_ended rfl]
    simp [State.returnErr, hmpc, OpName.caller]
  · rw [hstep (beginCycle_converting hv hctl), advanceUnlessEnded_faulted (by simp)]
    rfl
  · rw [hstep (beginCycle_ready hv hctl), advanceUnlessEnded_running (by exact hf) (by simp [hmpc]),
      State.advance_mpc_next _ (by simp [hmpc, sequence])]
    simp [hmpc]

/-! ### The transition table of CTL (R74) -/

/-- The row of R74 by which the command `i` takes CTL from `s` to `t`. -/
inductive CtlRow (s t : State) : Instr → Prop where
  | reset (left : t.ctl = .idle) : CtlRow s t .reset
  | convertD1 (o : Osr) (idle : s.ctl = .idle) (left : t.ctl = .pressureConverting) : CtlRow s t (Instr.convert .d1 o)
  | convertD2 (o : Osr) (converting : s.ctl = .pressureConverting) (held : s.d1 ≠ none)
      (left : t.ctl = .temperatureConverting) : CtlRow s t (Instr.convert .d2 o)
  | adcRead (converting : s.ctl = .temperatureConverting) (empty : s.d2 = none) (left : t.ctl = .done)
      (filled : t.d2 ≠ none) : CtlRow s t .adcRead
  | failed (i : Instr) (left : t.ctl = .needsReset) : CtlRow s t i

/-- The writes of a command past its guard leave CTL or follow its row. -/
theorem ctl_of_execWrites {i : Instr} {s t : State} {rx : List Byte} (hctl : ctlCondition i s) (hc : t.ctl = s.ctl) :
    (execWrites i s rx t).ctl = s.ctl ∨ CtlRow s (execWrites i s rx t) i := by
  rcases Instr.kinds i with rfl | ⟨ch, o, rfl⟩ | rfl | ⟨k, rfl⟩
  · exact .inr (.reset rfl)
  · rw [execWrites_convert]
    cases ch with
    | d1 => exact .inr (.convertD1 o (ctlCondition_convert_d1.mp hctl) rfl)
    | d2 =>
      obtain ⟨hconverting, hheld⟩ := ctlCondition_convert_d2.mp hctl
      exact .inr (.convertD2 o hconverting hheld rfl)
  · rw [execWrites]
    match hd : s.adcDestination with
    | none => exact .inl hc
    | some .d1 => exact .inl hc
    | some .d2 =>
      obtain ⟨hconverting, hempty⟩ := adcDestination_eq_d2.mp hd
      exact .inr (.adcRead hconverting hempty rfl (by simp))
  · exact .inl hc

/-- A row speaks of CTL and the samples alone. -/
theorem CtlRow.congr {s s' t t' : State} {i : Instr} (h : CtlRow s t i) (hs : s'.ctl = s.ctl) (h1 : s'.d1 = s.d1)
    (h2 : s'.d2 = s.d2) (ht : t'.ctl = t.ctl) (h2' : t'.d2 = t.d2) : CtlRow s' t' i := by
  cases h with
  | reset left => exact .reset (ht.trans left)
  | convertD1 o idle left => exact .convertD1 o (hs.trans idle) (ht.trans left)
  | convertD2 o converting held left => exact .convertD2 o (hs.trans converting) (h1 ▸ held) (ht.trans left)
  | adcRead converting empty left filled =>
    exact .adcRead (hs.trans converting) (h2.trans empty) (ht.trans left) (h2' ▸ filled)
  | failed i left => exact .failed i (ht.trans left)

/-- A command changes CTL only with its byte sent, and by its row. -/
theorem ctl_of_exec {i : Instr} {s t : State} (h : exec i s = .next t) :
    t.ctl = s.ctl ∨ (t.sent = s.sent ++ encode i ∧ CtlRow s t i) := by
  obtain ⟨-, ⟨k, -, rfl⟩ | ⟨-, -, rfl⟩ | ⟨hg, rx, -, rfl⟩⟩ := exec_next h
  · exact .inl rfl
  · exact .inr ⟨rfl, .failed i rfl⟩
  · obtain ⟨hctl, -⟩ := (execGuard_eq_none i s).mp hg
    have hwrites := ctl_of_execWrites (rx := rx) (t := s.transferred i (activityAfter i s.now s.activity)) hctl rfl
    exact hwrites.imp_right fun hrow => ⟨by simp, hrow⟩

/-- A micro-step changes CTL as its command does, or as BEGIN_CYCLE from Done with a calibration. -/
theorem ctl_of_performMicroStep {m : MicroStep} {s t : State} (h : performMicroStep m s = .next t) :
    t.ctl = s.ctl ∨ (∃ i, t.sent = s.sent ++ encode i ∧ CtlRow s t i) ∨
    (m = .beginCycle ∧ s.calValid = true ∧ (s.ctl = .idle ∨ s.ctl = .done) ∧ t.ctl = .idle) := by
  rcases performMicroStep_next h with ⟨i, v, -, hv, rfl⟩ | ⟨-, rfl⟩ | ⟨rfl, rfl⟩ | ⟨-, rfl⟩ | ⟨-, v, hv, rfl⟩ |
    ⟨-, v, hv, rfl⟩
  · rcases ctl_of_exec hv with hsame | ⟨hsent, hrow⟩
    · exact .inl (by simpa using hsame)
    · exact .inr (.inl ⟨i, by simpa using hsent, hrow.congr rfl rfl rfl (by simp) (by simp)⟩)
  · exact .inl (by simp)
  · rcases beginCycle_cases s with ⟨-, he⟩ | ⟨-, -, he⟩ | ⟨hvalid, hctl, he⟩ | ⟨-, -, he⟩ <;> rw [he]
    · exact .inl (by simp)
    · exact .inl (by simp)
    · exact .inr (.inr ⟨rfl, hvalid, hctl, by simp⟩)
    · exact .inl (by simp)
  · exact .inl (by simp)
  · obtain ⟨-, rfl | rfl⟩ := loadCommit_next hv <;> exact .inl (by simp)
  · obtain ⟨k, d1, d2, -, -, -, rfl⟩ := compensateStep_next hv
    exact .inl (by simp)

/-- Every change of CTL in a step is a command's row, or BEGIN_CYCLE from Done. -/
theorem ctl_of_step {s t : State} (h : step s = .next t) :
    t.ctl = s.ctl ∨ (∃ i, t.sent = s.sent ++ encode i ∧ CtlRow s t i) ∨
    (s.mpc = ⟨.readCycle, 0⟩ ∧ s.calValid = true ∧ (s.ctl = .idle ∨ s.ctl = .done) ∧ t.ctl = .idle) := by
  obtain ⟨-, u, hu, hh⟩ := step_cases h
  have hrow {i : Instr} (hr : CtlRow u t i) : CtlRow s t i := hr.congr hu.ctl.symm hu.d1.symm hu.d2.symm rfl rfl
  rw [← hu.ctl, ← hu.sent, ← hu.calValid]
  cases hh with
  | time d eq => exact .inl (eq ▸ rfl)
  | read r eq => exact .inl (eq ▸ rfl)
  | idle _ eq => exact .inl (eq ▸ rfl)
  | start _ o _ eq => exact .inl (eq ▸ rfl)
  | answer _ r eq => exact .inl (eq ▸ rfl)
  | single b _ i run _ => exact (ctl_of_exec run).imp_right fun ⟨hsent, hr⟩ => .inl ⟨i, hsent, hrow hr⟩
  | micro _ m cur run _ =>
    obtain ⟨-, -, hmpc, -⟩ := mpc_of_currentMicroStep cur
    rcases ctl_of_performMicroStep run with hsame | ⟨i, hsent, hr⟩ | ⟨rfl, hcycle⟩
    · exact .inl hsame
    · exact .inr (.inl ⟨i, hsent, hrow hr⟩)
    · exact .inr (.inr ⟨hmpc rfl, hcycle⟩)

/-- Settles O41: CTL is a command's, by its row, or BEGIN_CYCLE's, which from Idle changes nothing. -/
theorem ctlChangesByTheTable : Obligations.CtlChangesByTheTable := by
  intro s t h hne
  rcases ctl_of_step h with hsame | ⟨i, hsent, hrow⟩ | ⟨hmpc, hv, hidle | hdone, hleft⟩
  · exact absurd hsame hne
  · cases hrow with
    | reset left => exact .inl ⟨hsent, left⟩
    | convertD1 o idle left => exact .inr (.inl ⟨o, hsent, idle, left⟩)
    | convertD2 o converting held left => exact .inr (.inr (.inl ⟨o, hsent, converting, held, left⟩))
    | adcRead converting empty left filled =>
      exact .inr (.inr (.inr (.inl ⟨hsent, converting, empty, left, filled⟩)))
    | failed i left => exact .inr (.inr (.inr (.inr (.inr ⟨i, hsent, left⟩))))
  · exact absurd (hleft.trans hidle.symm) hne
  · exact .inr (.inr (.inr (.inr (.inl ⟨hmpc, hv, hdone, hleft⟩))))

/-! ### The hazards (R88, R144) -/

/-- A byte on the bus log names its command. -/
theorem encode_injective : Function.Injective encode := by
  intro i j h
  have hi := decode_encode i []
  rw [h, decode_encode] at hi
  cases hi
  rfl

/-- A micro-step that sends a byte is a command whose guard holds. -/
theorem sent_of_performMicroStep {m : MicroStep} {s t : State} (h : performMicroStep m s = .next t) :
    t.sent = s.sent ∨ ∃ i, execGuard i s = none ∧ t.now = s.now ∧ t.sent = s.sent ++ encode i := by
  rcases performMicroStep_next h with ⟨i, v, -, hv, rfl⟩ | ⟨-, rfl⟩ | ⟨-, rfl⟩ | ⟨-, rfl⟩ | ⟨-, v, hv, rfl⟩ |
    ⟨-, v, hv, rfl⟩
  · rcases sent_of_exec hv with ⟨k, -, rfl⟩ | ⟨hg, -, hnow, hsent⟩
    · exact .inl (by simp)
    · exact .inr ⟨i, hg, by simpa using hnow, by simpa using hsent⟩
  · exact .inl (by simp)
  · rcases beginCycle_cases s with ⟨-, he⟩ | ⟨-, -, he⟩ | ⟨-, -, he⟩ | ⟨-, -, he⟩ <;> rw [he] <;> exact .inl (by simp)
  · exact .inl (by simp)
  · obtain ⟨-, rfl | rfl⟩ := loadCommit_next hv <;> exact .inl (by simp)
  · obtain ⟨k, d1, d2, -, -, -, rfl⟩ := compensateStep_next hv
    exact .inl (by simp)

/-- A step that sends a command's byte sends it with both conditions of its row met, at the time of the state it leaves. -/
theorem conditions_of_sent {s t : State} {i : Instr} (h : step s = .next t) (hsent : t.sent = s.sent ++ encode i) :
    ∃ u, EventTaken s u ∧ ctlCondition i u ∧ timeCondition i u ∧ t.now = u.now := by
  obtain ⟨-, u, hu, hh⟩ := step_cases h
  have hcommand {j : Instr} (hg : execGuard j u = none) (hnow : t.now = u.now) (hj : t.sent = u.sent ++ encode j) :
      ∃ u, EventTaken s u ∧ ctlCondition i u ∧ timeCondition i u ∧ t.now = u.now := by
    rw [hsent, hu.sent] at hj
    cases encode_injective (List.append_cancel_left hj)
    obtain ⟨hctl, htime⟩ := (execGuard_eq_none i u).mp hg
    exact ⟨u, hu, hctl, htime, hnow⟩
  have hsilent : t.sent ≠ u.sent := by simp [hsent, hu.sent, encode]
  cases hh with
  | time d eq => exact absurd (eq ▸ rfl) hsilent
  | read r eq => exact absurd (eq ▸ rfl) hsilent
  | idle _ eq => exact absurd (eq ▸ rfl) hsilent
  | start _ o _ eq => exact absurd (eq ▸ rfl) hsilent
  | answer _ r eq => exact absurd (eq ▸ rfl) hsilent
  | single b _ j run _ =>
    rcases sent_of_exec run with ⟨k, -, rfl⟩ | ⟨hg, -, hnow, hj⟩
    · exact absurd rfl hsilent
    · exact hcommand hg hnow hj
  | micro _ m _ run _ =>
    rcases sent_of_performMicroStep run with hsame | ⟨j, hg, hnow, hj⟩
    · exact absurd hsame hsilent
    · exact hcommand hg hnow hj

/-- Only RESET is valid in NeedsReset (R24, R72). -/
theorem ctl_ne_needsReset {i : Instr} {s : State} (hi : i ≠ .reset) (h : ctlCondition i s) : s.ctl ≠ .needsReset := by
  rcases Instr.kinds i with rfl | ⟨ch, o, rfl⟩ | rfl | ⟨k, rfl⟩
  · exact absurd rfl hi
  · cases ch with
    | d1 => simp [ctlCondition_convert_d1.mp h]
    | d2 => simp [ctlCondition_convert_d2.mp h]
  · rcases h with ⟨hconverting, -⟩ | ⟨hconverting, -⟩ <;> simp [hconverting]
  · have hidle : s.ctl = .idle := h
    simp [hidle]

/-- A CONVERT is sent only with no result pending (R72). -/
theorem adcDestination_of_convert {ch : Channel} {o : Osr} {s : State} (h : ctlCondition (Instr.convert ch o) s) :
    s.adcDestination = none := by
  cases ch with
  | d1 => exact adcDestination_of_idle_or_done (.inl (ctlCondition_convert_d1.mp h))
  | d2 =>
    obtain ⟨hctl, hheld⟩ := ctlCondition_convert_d2.mp h
    simp [State.adcDestination, hctl, hheld]

/-- Settles O49: the guard of the command sent speaks of CTL, the samples and READY_AT, and the mirror says the same of the sensor. -/
theorem hazardsAreAvoided : Obligations.HazardsAreAvoided := by
  intro s t i _ _ hm hstep hsent hi
  obtain ⟨u, hu, hctl, htime, hnow⟩ := conditions_of_sent hstep hsent
  have hready : u.readyAt ≤ t.now := hnow ▸ htime.resolve_left hi
  have hmu : mirrored u := mirrored_congr hu.ctl hu.d1 hu.d2 hu.readyAt hu.config hu.activity hm
  have hagrees : agreesWith u s.activity := hu.activity ▸ hmu (ctl_ne_needsReset hi hctl)
  rw [← hu.config]
  refine ⟨?_, fun since ha => ?_, ?_⟩
  · rintro rfl
    have hd := ctlCondition_adcRead.mp hctl
    match ha : s.activity with
    | .unknown => rw [ha] at hagrees; exact hagrees.elim
    | .quiet => rw [ha] at hagrees; exact absurd hagrees hd
    | .settling since => rw [ha] at hagrees; exact absurd hagrees.1 hd
    | .converting ch o since => rw [ha] at hagrees; exact ⟨ch, o, since, rfl, hagrees.2 ▸ hready⟩
  · rw [ha] at hagrees
    exact hagrees.2 ▸ hready
  · rintro ⟨ch', o', rfl⟩ ch o since ha
    rw [ha] at hagrees
    have hd := adcDestination_of_convert hctl
    rw [hagrees.1] at hd
    cases hd

end Sys2Proof.Machine

/-! ## The fixed sequences never fault (R73)

A consistent block takes every event of the host operations, and what each micro-step leaves is where the next one needs it. -/

namespace Sys2Proof.Machine

open Sys2Proof.Safety

/-- The outcome is a next state, and a consistent one. -/
def StaysConsistent (o : Host.Outcome State Fault Refusal) : Prop := ∃ t, o = .next t ∧ consistent t

theorem staysConsistent_next {t : State} (h : consistent t) : StaysConsistent (.next t) := ⟨t, rfl, h⟩

/-! ### Taking an event, and what happens between operations -/

/-- Taking an event, and the passing of time with it, keeps the registers where the operation needs them: time only makes a
delay be over. -/
theorem located_of_eventTaken {s u : State} (h : EventTaken s u) (hs : located s) : located u := by
  have hnow := h.now
  revert hs
  unfold located inInitialize inReset inReadCycle atRest
  rw [h.mpc, h.ctl, h.readyAt, h.calValid, h.stage, h.d1, h.d2]
  cases s.mpc.op <;> dsimp only <;> gcongr

theorem consistent_of_eventTaken {s u : State} (h : EventTaken s u) (hs : consistent s) : consistent u := by
  obtain ⟨hf, hloc, hw⟩ := hs
  exact ⟨h.fault.trans hf, located_of_eventTaken h hloc, calibrationWhole_congr h.cal h.calValid hw⟩

/-- The registers rest while no operation is in progress. -/
theorem atRest_of_consistent {s : State} (hs : consistent s) (hop : s.mpc.op = .none) : atRest s := by
  obtain ⟨-, hloc, -⟩ := hs
  simpa [located, hop] using hloc

/-- Between operations a consistent block starts, or answers, whatever the host calls. -/
theorem startCall_staysConsistent {s : State} (hs : consistent s) (hop : s.mpc.op = .none) (c : HostCall) :
    StaysConsistent (startCall c s) := by
  have hrest := atRest_of_consistent hs hop
  obtain ⟨hf, hloc, hw⟩ := hs
  cases c with
  | initialise =>
    have hstart : inInitialize (s.beginOp .initialise) := by simpa [inInitialize, atRest] using hrest
    exact staysConsistent_next ⟨hf, hstart, hw⟩
  | reset =>
    have hstart : inReset (s.beginOp .reset) := by simpa [inReset, atRest] using hrest
    exact staysConsistent_next ⟨hf, hstart, hw⟩
  | readCycle => exact staysConsistent_next ⟨hf, .inl ⟨rfl, hrest⟩, hw⟩
  | read r => exact staysConsistent_next ⟨hf, hloc, hw⟩
  | compensate d1 d2 =>
    rw [startCall, compensateCall]
    split
    · exact staysConsistent_next ⟨hf, hloc, hw⟩
    · next hvalid =>
      obtain ⟨k, hk⟩ := coefficients_of_all (hw.1 (by simpa using hvalid))
      rw [hk]
      exact staysConsistent_next ⟨hf, hloc, hw⟩

/-! ### The shapes of a micro-step -/

/-- A micro-step that is not its sequence's last leaves the block consistent when the registers stand where the next one needs
them. -/
theorem consistent_advance_next {s : State} (hf : s.fault = none) (hw : calibrationWhole s)
    (hlen : s.mpc.idx + 1 < (sequence s.config s.mpc.op).length)
    (hloc : located { s with mpc := ⟨s.mpc.op, s.mpc.idx + 1⟩ }) : consistent s.advance := by
  rw [State.advance_mpc_next s hlen]
  exact ⟨hf, hloc, hw⟩

/-- The last micro-step leaves the block consistent when the registers rest. -/
theorem consistent_advance_last {s : State} (hf : s.fault = none) (hw : calibrationWhole s)
    (hlen : ¬ s.mpc.idx + 1 < (sequence s.config s.mpc.op).length) (hrest : atRest s) : consistent s.advance := by
  rw [State.advance_mpc_last s hlen]
  exact ⟨hf, hrest, hw⟩

/-- An error returned with the registers at rest leaves the block consistent. -/
theorem consistent_returnErr {s : State} (hf : s.fault = none) (hw : calibrationWhole s) (hrest : atRest s)
    (k : ErrorKind) : consistent (s.returnErr k).advanceUnlessEnded := by
  rw [advanceUnlessEnded_ended rfl]
  exact ⟨hf, hrest, hw⟩

/-- A WAIT holds, or completes with its delay over. -/
theorem wait_staysConsistent {s : State} (hs : consistent s) (hdone : s.readyAt ≤ s.now → consistent s.advance) :
    StaysConsistent (performMicroStep .wait s) := by
  refine staysConsistent_next ?_
  rcases lt_or_ge s.now s.readyAt with hearly | hready
  · rwa [waitStep_early hearly]
  · rw [waitStep_ready hready]
    exact hdone hready

/-- A command whose conditions hold, and which is not its sequence's last micro-step: a failed transfer ends the operation in
NeedsReset, and the writes of an answered one must be where the next micro-step needs them. -/
theorem command_staysConsistent {i : Instr} {s : State} (hs : consistent s) (hop : s.mpc.op ≠ .none)
    (hlen : s.mpc.idx + 1 < (sequence s.config s.mpc.op).length) (hctl : ctlCondition i s) (htime : timeCondition i s)
    (hloc : ∀ rx, located { execWrites i s rx (s.transferred i (activityAfter i s.now s.activity)) with
      mpc := ⟨s.mpc.op, s.mpc.idx + 1⟩ }) : StaysConsistent (performMicroStep (.command i) s) := by
  obtain ⟨hf, -, hw⟩ := hs
  have hg : execGuard i s = none := (execGuard_eq_none i s).mpr ⟨hctl, htime⟩
  obtain ⟨t, ht⟩ := exec_total i hf
  rw [performMicroStep_command ht]
  refine staysConsistent_next ?_
  obtain ⟨-, ⟨k, hk, -⟩ | ⟨-, -, rfl⟩ | ⟨-, rx, -, rfl⟩⟩ := exec_next ht
  · rw [hg] at hk
    cases hk
  · rw [advanceUnlessEnded_ended rfl]
    exact ⟨hf, ⟨.inr (.inr rfl), fun hn => absurd rfl hn⟩, hw⟩
  · rw [advanceUnlessEnded_running (by simpa using hf) (by simpa using hop)]
    refine consistent_advance_next (by simpa using hf) (calibrationWhole_congr (by simp) (by simp) hw)
      (by simpa using hlen) ?_
    simpa using hloc rx

/-! ### The micro-steps that send nothing -/

/-- At rest, CTL is no converting state. -/
theorem not_converting_of_atRest {s : State} (h : atRest s) :
    ¬ (s.ctl = .pressureConverting ∨ s.ctl = .temperatureConverting) := by
  obtain ⟨h | h | h, -⟩ := h <;> simp [h]

/-- LOAD_COMMIT, step 11 of initialize, with every cell staged and the registers at rest (R68). -/
theorem loadCommit_staysConsistent {s : State} (hs : consistent s) (hop : s.mpc.op = .initialise)
    (hidx : s.mpc.idx = 11) (hstage : ∀ j : Fin 8, s.stage[j] ≠ none) (hrest : atRest s) :
    StaysConsistent (performMicroStep .loadCommit s) := by
  have ⟨hf, _, hw⟩ := hs
  obtain ⟨words, hwords⟩ := allWords_of_all hstage
  rw [performMicroStep_loadCommit (loadCommit_of_allWords hwords)]
  refine staysConsistent_next ?_
  split
  · rw [advanceUnlessEnded_running (by exact hf) (by simp [hop])]
    exact consistent_advance_last hf (calibrationWhole_commit hstage) (by simp [hop, hidx, sequence]) hrest
  · exact consistent_returnErr hf hw hrest _

/-- BEGIN_CYCLE, step 0 of readCycle, with the registers at rest (R90). -/
theorem beginCycle_staysConsistent {s : State} (hs : consistent s) (hop : s.mpc.op = .readCycle) (hidx : s.mpc.idx = 0)
    (hrest : atRest s) : StaysConsistent (performMicroStep .beginCycle s) := by
  have ⟨hf, _, hw⟩ := hs
  refine staysConsistent_next ?_
  rcases beginCycle_cases s with ⟨-, he⟩ | ⟨-, -, he⟩ | ⟨hvalid, hctl, he⟩ | ⟨-, hctl, -⟩
  · exact he ▸ consistent_returnErr hf hw hrest _
  · exact he ▸ consistent_returnErr hf hw hrest _
  · rw [he, advanceUnlessEnded_running (by exact hf) (by simp [hop])]
    refine consistent_advance_next hf hw (by simp [hop, hidx, sequence]) ?_
    have hready : s.readyAt ≤ s.now := hrest.2 (by rcases hctl with h | h <;> simp [h])
    simp [located, inReadCycle, hop, hidx, hvalid, hready]
  · exact absurd hctl (not_converting_of_atRest hrest)

/-- COMPENSATE, step 7 of readCycle, with a calibration, both samples and the registers at rest (R111). -/
theorem compensate_staysConsistent {s : State} (hs : consistent s) (hop : s.mpc.op = .readCycle) (hidx : s.mpc.idx = 7)
    (hvalid : s.calValid = true) (h1 : s.d1 ≠ none) (h2 : s.d2 ≠ none) (hrest : atRest s) :
    StaysConsistent (performMicroStep .compensate s) := by
  have ⟨hf, _, hw⟩ := hs
  obtain ⟨d1, hd1⟩ := Option.ne_none_iff_exists'.mp h1
  obtain ⟨d2, hd2⟩ := Option.ne_none_iff_exists'.mp h2
  obtain ⟨k, hk⟩ := coefficients_of_all (hw.1 hvalid)
  have hcomp : compensateStep s = .next { s with last := some (comp k d1 d2) } := by
    rw [compensateStep, hk, hd1, hd2]
  rw [performMicroStep_compensate hcomp]
  refine staysConsistent_next ?_
  rw [advanceUnlessEnded_running (by exact hf) (by simp [hop])]
  exact consistent_advance_last hf hw (by simp [hop, hidx, sequence]) hrest

/-! ### The three sequences -/

/-- With the cells below an index staged, staging that index adds it to them (R65). -/
theorem set_ne_none {cells : Cells} {k : U3} {w : U16} (h : ∀ j : Fin 8, j.val < k.toNat → cells[j] ≠ none) :
    ∀ j : Fin 8, j.val < k.toNat + 1 → (cells.set k.toNat (some w) (by omega))[j] ≠ none := by
  intro j hj
  rw [Fin.getElem_fin, Vector.getElem_set]
  split
  · simp
  · exact h j (by omega)

/-- Every micro-step of initialize (R114). -/
theorem initialise_staysConsistent {s : State} {m : MicroStep} (hs : consistent s) (hop : s.mpc.op = .initialise)
    (hm : s.currentMicroStep = some m) : StaysConsistent (performMicroStep m s) := by
  have ⟨hf, hloc, hw⟩ := hs
  have hinit : inInitialize s := by simpa [located, hop] using hloc
  obtain ⟨-, hvalid, hrest, hidle, hready, hstage⟩ := hinit
  obtain ⟨-, hmicro⟩ := (currentMicroStep_cases hm).resolve_right (by simp [hop])
  rcases hmicro with ⟨hidx, rfl⟩ | ⟨hidx, rfl⟩ | ⟨hidx, rfl⟩ | ⟨k, hidx, rfl⟩ | ⟨hidx, rfl⟩
  · refine staysConsistent_next (consistent_advance_next hf (calibrationWhole_loadBegin s) (by simp [hop, hidx, sequence]) ?_)
    simpa [located, inInitialize, atRest, hop, hidx] using hrest (by omega)
  · refine command_staysConsistent hs (by simp [hop]) (by simp [hop, hidx, sequence]) trivial (.inl rfl) fun rx => ?_
    simpa [located, inInitialize, hop, hidx, execWrites] using hvalid (by omega)
  · refine wait_staysConsistent hs fun hdone => consistent_advance_next hf hw (by simp [hop, hidx, sequence]) ?_
    simpa [located, inInitialize, hop, hidx] using ⟨hvalid (by omega), hidle (by omega), hdone⟩
  · have hk := k.isLt
    have hctl : s.ctl = .idle := hidle (by omega)
    have hdone : s.readyAt ≤ s.now := hready (by omega)
    refine command_staysConsistent hs (by simp [hop]) (by simp [hop, hidx, sequence]; omega) hctl (.inr hdone)
      fun rx => ?_
    have hstaged := set_ne_none (k := k) (w := promWordOf rx) fun j hj => hstage j (by omega)
    simpa [located, inInitialize, hop, hidx, execWrites, hctl, hdone, hvalid] using
      ⟨by omega, fun j hj => hstaged j (Nat.lt_succ_of_le hj)⟩
  · have hdone : atRest s := ⟨.inl (hidle (by omega)), fun _ => hready (by omega)⟩
    exact loadCommit_staysConsistent hs hop hidx (fun j => hstage j (by omega)) hdone

/-- Every micro-step of reset (R115). -/
theorem reset_staysConsistent {s : State} {m : MicroStep} (hs : consistent s) (hop : s.mpc.op = .reset)
    (hm : s.currentMicroStep = some m) : StaysConsistent (performMicroStep m s) := by
  have ⟨hf, hloc, hw⟩ := hs
  have hreset : inReset s := by simpa [located, hop] using hloc
  obtain ⟨-, hrest, hidle⟩ := hreset
  obtain ⟨-, hmicro⟩ := ((currentMicroStep_cases hm).resolve_left (by simp [hop])).resolve_right (by simp [hop])
  rcases hmicro with ⟨hidx, rfl⟩ | ⟨hidx, rfl⟩
  · refine command_staysConsistent hs (by simp [hop]) (by simp [hop, hidx, sequence]) trivial (.inl rfl) fun rx => ?_
    simp [located, inReset, hop, hidx, execWrites]
  · refine wait_staysConsistent hs fun hdone => ?_
    exact consistent_advance_last hf hw (by simp [hop, hidx, sequence]) ⟨.inl (hidle hidx), fun _ => hdone⟩

/-- Every micro-step of readCycle (R116). -/
theorem readCycle_staysConsistent {s : State} {m : MicroStep} (hs : consistent s) (hop : s.mpc.op = .readCycle)
    (hm : s.currentMicroStep = some m) : StaysConsistent (performMicroStep m s) := by
  have ⟨hf, hloc, hw⟩ := hs
  have hcycle : inReadCycle s := by simpa [located, hop] using hloc
  obtain ⟨-, hmicro⟩ := ((currentMicroStep_cases hm).resolve_left (by simp [hop])).resolve_left (by simp [hop])
  rcases hcycle with ⟨hidx, hrest⟩ | ⟨hvalid, ⟨hidx, hctl, hdone, h1, h2⟩ | ⟨hidx, hctl, h1, h2⟩ |
    ⟨hidx, hctl, hdone, h1, h2⟩ | ⟨hidx, hctl, hdone, h1, h2⟩ | ⟨hidx, hctl, h1, h2⟩ | ⟨hidx, hctl, hdone, h1, h2⟩ |
    ⟨hidx, hctl, hdone, h1, h2⟩⟩
  · obtain rfl : m = .beginCycle := by simpa [hidx] using hmicro
    exact beginCycle_staysConsistent hs hop hidx hrest
  · obtain rfl : m = .command (Instr.convert .d1 s.config.osrD1) := by simpa [hidx] using hmicro
    refine command_staysConsistent hs (by simp [hop]) (by simp [hop, hidx, sequence])
      (ctlCondition_convert_d1.mpr hctl) (.inr hdone) fun rx => ?_
    rw [execWrites_convert]
    simp [located, inReadCycle, hop, hidx, hvalid, h1, h2]
  · obtain rfl : m = .wait := by simpa [hidx] using hmicro
    refine wait_staysConsistent hs fun hdone => consistent_advance_next hf hw (by simp [hop, hidx, sequence]) ?_
    simp [located, inReadCycle, hop, hidx, hvalid, hctl, hdone, h1, h2]
  · obtain rfl : m = .command .adcRead := by simpa [hidx] using hmicro
    have hd : s.adcDestination = some .d1 := adcDestination_eq_d1.mpr ⟨hctl, h1⟩
    refine command_staysConsistent hs (by simp [hop]) (by simp [hop, hidx, sequence]) (.inl ⟨hctl, h1⟩) (.inr hdone)
      fun rx => ?_
    simp [located, inReadCycle, hop, hidx, hvalid, execWrites, hd, hctl, hdone, h2]
  · obtain rfl : m = .command (Instr.convert .d2 s.config.osrD2) := by simpa [hidx] using hmicro
    refine command_staysConsistent hs (by simp [hop]) (by simp [hop, hidx, sequence])
      (ctlCondition_convert_d2.mpr ⟨hctl, h1⟩) (.inr hdone) fun rx => ?_
    rw [execWrites_convert]
    simp [located, inReadCycle, hop, hidx, hvalid, h1, h2]
  · obtain rfl : m = .wait := by simpa [hidx] using hmicro
    refine wait_staysConsistent hs fun hdone => consistent_advance_next hf hw (by simp [hop, hidx, sequence]) ?_
    simp [located, inReadCycle, hop, hidx, hvalid, hctl, hdone, h1, h2]
  · obtain rfl : m = .command .adcRead := by simpa [hidx] using hmicro
    have hd : s.adcDestination = some .d2 := adcDestination_eq_d2.mpr ⟨hctl, h2⟩
    refine command_staysConsistent hs (by simp [hop]) (by simp [hop, hidx, sequence]) (.inr ⟨hctl, h2⟩) (.inr hdone)
      fun rx => ?_
    simp [located, inReadCycle, hop, hidx, hvalid, execWrites, hd, hdone, h1]
  · obtain rfl : m = .compensate := by simpa [hidx] using hmicro
    exact compensate_staysConsistent hs hop hidx hvalid h1 h2 ⟨.inr (.inl hctl), fun _ => hdone⟩

/-! ### The step -/

/-- MPC never points past the end of its sequence (R26). -/
theorem exists_currentMicroStep {s : State} (hs : consistent s) (hop : s.mpc.op ≠ .none) :
    ∃ m, s.currentMicroStep = some m := by
  obtain ⟨-, hloc, -⟩ := hs
  have hlen : s.mpc.idx < (sequence s.config s.mpc.op).length := by
    unfold located at hloc
    cases h : s.mpc.op with
    | none => exact absurd h hop
    | initialise =>
      simp only [h, inInitialize] at hloc
      simp [sequence]; omega
    | reset =>
      simp only [h, inReset] at hloc
      simp [sequence]; omega
    | readCycle =>
      simp only [h, inReadCycle] at hloc
      simp [sequence]; omega
  exact ⟨_, List.getElem?_eq_getElem hlen⟩

/-- The block's turn: idle, a call, or the micro-step of the operation in progress. -/
theorem blockTurn_staysConsistent {s : State} (hs : consistent s) : StaysConsistent (blockTurn s) := by
  by_cases hop : s.mpc.op = .none
  · cases hc : s.calls with
    | nil =>
      have hidle : blockTurn s = .next s := by rw [blockTurn, if_pos hop, hc]
      exact hidle ▸ staysConsistent_next hs
    | cons c rest =>
      rw [blockTurn_call hop hc]
      exact startCall_staysConsistent (s := { s with calls := rest }) hs hop c
  · obtain ⟨m, hm⟩ := exists_currentMicroStep hs hop
    rw [blockTurn_micro hop hm]
    cases h : s.mpc.op with
    | none => exact absurd h hop
    | initialise => exact initialise_staysConsistent hs h hm
    | reset => exact reset_staysConsistent hs h hm
    | readCycle => exact readCycle_staysConsistent hs h hm

/-- A step takes its event from the schedule, or finds it empty, and puts none there. -/
theorem schedule_of_step {s t : State} (h : step s = .next t) : ∀ e ∈ t.schedule, e ∈ s.schedule := by
  obtain ⟨u, v, hu, hv, m, r, rfl⟩ := step_written h
  have hsame : v.schedule = u.schedule := by cases hv <;> simp
  exact fun e he => hu.schedule e (hsame ▸ he)

/-- The event at the head of the schedule, taken. -/
theorem eventTaken_scheduled {s : State} {e : Event} {rest : List Event} (h : s.schedule = e :: rest) :
    EventTaken s { s with schedule := rest } :=
  ⟨rfl, rfl, rfl, rfl, rfl, rfl, rfl, rfl, rfl, rfl, rfl, rfl, rfl, le_refl _, rfl, rfl, fun e he => by simp [h, he]⟩

/-- The free passing of time where nothing is scripted. -/
theorem eventTaken_unscripted (s : State) :
    EventTaken s { s with now := s.now + Config.freeAdvance s.draws, draws := s.draws + 1 } :=
  ⟨rfl, rfl, rfl, rfl, rfl, rfl, rfl, rfl, rfl, rfl, rfl, rfl, rfl, Nat.le_add_right _ _, rfl, rfl, fun _ he => he⟩

/-- A step of a consistent block driven by host operations. -/
theorem step_staysConsistent {s : State} (hs : consistent s) (ho : onlyOperations s.schedule) :
    StaysConsistent (step s) := by
  have ⟨hf, _, _⟩ := hs
  have hstep : step s = handle s.takeEvent.1 s.takeEvent.2 := by rw [step, hf]
  rw [hstep]
  rcases takeEvent_eq s with ⟨e, rest, hsched, he⟩ | ⟨-, he⟩ <;> rw [he]
  · have hu : EventTaken s { s with schedule := rest } := eventTaken_scheduled hsched
    have hcu := consistent_of_eventTaken hu hs
    cases e with
    | tick d => exact staysConsistent_next (consistent_of_eventTaken (hu.elapse d) hs)
    | run => exact blockTurn_staysConsistent hcu
    | reader r => exact staysConsistent_next (hcu)
    | command b => exact absurd (by simp [hsched]) (ho b)
  · exact blockTurn_staysConsistent (consistent_of_eventTaken (eventTaken_unscripted s) hs)

/-- Settles O46: every event leaves a consistent state, each micro-step because the registers stand where its conditions need them;
and no event is ever added to the schedule. -/
theorem operationsNeverFault : Obligations.OperationsNeverFault := by
  intro s hs ho
  obtain ⟨t, ht, hc⟩ := step_staysConsistent hs ho
  exact ⟨t, ht, hc, fun b hb => ho b (schedule_of_step ht _ hb)⟩

end Sys2Proof.Machine

/-! ## The compensation

The ranges of R108, each by interval arithmetic from the ranges before it; the datapath's exactness, which needs them at the
dividends and the results alone; and the two places that compensate, which read no other calibration word than C[1..6]. -/

namespace Sys2Proof.Machine

/-! ### The range of every value (R108) -/

/-- A factor between 0 and `n` stretches an interval around 0 by at most `n`. -/
theorem mul_bounds {a x n lo hi : Int} (ha : 0 ≤ a) (han : a ≤ n) (hx : lo ≤ x ∧ x ≤ hi) (hlo : lo ≤ 0) (hhi : 0 ≤ hi) :
    n * lo ≤ a * x ∧ a * x ≤ n * hi := by
  constructor
  · calc n * lo ≤ a * lo := mul_le_mul_of_nonpos_right han hlo
      _ ≤ a * x := mul_le_mul_of_nonneg_left hx.1 ha
  · calc a * x ≤ a * hi := mul_le_mul_of_nonneg_left hx.2 ha
      _ ≤ n * hi := mul_le_mul_of_nonneg_right han hhi

/-- Truncating division by a positive number is monotone. -/
theorem tdiv_bounds {a lo hi d : Int} (hd : 0 < d) (h : lo ≤ a ∧ a ≤ hi) :
    tdiv lo d ≤ tdiv a d ∧ tdiv a d ≤ tdiv hi d :=
  ⟨Int.tdiv_le_tdiv hd h.1, Int.tdiv_le_tdiv hd h.2⟩

section

variable (k : Coefficients) (d1 d2 : U24)

theorem dTExact_bounds : -16776960 ≤ dTExact k d2 ∧ dTExact k d2 ≤ 16777215 := by
  have hc5 := k.c5.isLt
  have hd2 := d2.isLt
  unfold dTExact
  omega

/-- The one range of the three products with dT: each is a u16 times dT. -/
theorem word_mul_dTExact_bounds (w : U16) :
    -1099478073600 ≤ w.toNat * dTExact k d2 ∧ w.toNat * dTExact k d2 ≤ 1099494785025 :=
  mul_bounds (n := 65535) (by omega) (by have := w.isLt; omega) (dTExact_bounds k d2) (by decide) (by decide)

theorem offExact_bounds : -17179344900 ≤ offExact k d2 ∧ offExact k d2 ≤ 25769409536 := by
  have hc2 := k.c2.isLt
  have hquot : -17179344900 ≤ tdiv (k.c4.toNat * dTExact k d2) (2 ^ 6) ∧
      tdiv (k.c4.toNat * dTExact k d2) (2 ^ 6) ≤ 17179606016 :=
    tdiv_bounds (by decide) (word_mul_dTExact_bounds k d2 k.c4)
  unfold offExact
  omega

theorem sensExact_bounds : -8589672450 ≤ sensExact k d2 ∧ sensExact k d2 ≤ 12884704768 := by
  have hc1 := k.c1.isLt
  have hquot : -8589672450 ≤ tdiv (k.c3.toNat * dTExact k d2) (2 ^ 7) ∧
      tdiv (k.c3.toNat * dTExact k d2) (2 ^ 7) ≤ 8589803008 :=
    tdiv_bounds (by decide) (word_mul_dTExact_bounds k d2 k.c3)
  unfold sensExact
  omega

theorem dTExact_mul_c6_bounds :
    -1099478073600 ≤ dTExact k d2 * k.c6.toNat ∧ dTExact k d2 * k.c6.toNat ≤ 1099494785025 :=
  mul_comm (k.c6.toNat : Int) _ ▸ word_mul_dTExact_bounds k d2 k.c6

theorem tempExact_bounds : -129068 ≤ tempExact k d2 ∧ tempExact k d2 ≤ 133069 := by
  have hquot : -131068 ≤ tdiv (dTExact k d2 * k.c6.toNat) (2 ^ 23) ∧
      tdiv (dTExact k d2 * k.c6.toNat) (2 ^ 23) ≤ 131069 :=
    tdiv_bounds (by decide) (dTExact_mul_c6_bounds k d2)
  unfold tempExact
  omega

theorem d1_mul_sensExact_bounds :
    -144110781473226750 ≤ d1.toNat * sensExact k d2 ∧ d1.toNat * sensExact k d2 ≤ 216169462104261120 :=
  mul_bounds (n := 16777215) (by omega) (by have := d1.isLt; omega) (sensExact_bounds k d2) (by decide) (by decide)

theorem xExact_bounds : -68717375504 ≤ xExact k d1 d2 ∧ xExact k d1 d2 ≤ 103077632000 :=
  tdiv_bounds (by decide) (d1_mul_sensExact_bounds k d1 d2)

theorem xExact_sub_offExact_bounds :
    -94486785040 ≤ xExact k d1 d2 - offExact k d2 ∧ xExact k d1 d2 - offExact k d2 ≤ 120256976900 := by
  have hx := xExact_bounds k d1 d2
  have hoff := offExact_bounds k d2
  omega

theorem pExact_bounds : -2883507 ≤ pExact k d1 d2 ∧ pExact k d1 d2 ≤ 3669951 :=
  tdiv_bounds (by decide) (xExact_sub_offExact_bounds k d1 d2)

end

/-- The coefficients at which dT, the products, OFF, SENS, TEMP and X are least, with D2 = 0 and D1 at its greatest. -/
def leastCorner : Coefficients := ⟨0, 0, 0xFFFF, 0xFFFF, 0xFFFF, 0xFFFF⟩

/-- The coefficients at which those values are greatest, with D1 and D2 at their greatest. -/
def greatestCorner : Coefficients := ⟨0xFFFF, 0xFFFF, 0xFFFF, 0xFFFF, 0, 0xFFFF⟩

/-- Two bounds attained, each at its corner. -/
theorem attained_at_corners {f : Coefficients → U24 → U24 → Int} {lo hi : Int}
    (hlo : f leastCorner 0xFFFFFF 0 = lo) (hhi : f greatestCorner 0xFFFFFF 0xFFFFFF = hi) :
    attained f lo ∧ attained f hi :=
  ⟨⟨_, _, _, hlo⟩, ⟨_, _, _, hhi⟩⟩

/-- R108's low corner value of P: X at its minimum, with OFF as great as `C[2]` alone makes it. -/
theorem attained_pExact_lowCorner : attained pExact (-2359227) :=
  ⟨{ leastCorner with c2 := 0xFFFF, c4 := 0 }, 0xFFFFFF, 0, by decide⟩

/-- R108's high corner value of P: X at its maximum, with OFF zero. -/
theorem attained_pExact_highCorner : attained pExact 3145679 :=
  ⟨{ greatestCorner with c2 := 0, c4 := 0 }, 0xFFFFFF, 0xFFFFFF, by decide⟩

/-- Settles O34: the intervals are those of interval arithmetic; one corner of the inputs attains all the minima but P's,
another all the maxima but P's, and P's two corner values differ from them in C[2] and C[4]. -/
theorem compensationRanges : Obligations.CompensationRanges := by
  refine ⟨fun k d1 d2 => ⟨?_, dTExact_bounds k d2, word_mul_dTExact_bounds k d2 k.c4, word_mul_dTExact_bounds k d2 k.c3,
      dTExact_mul_c6_bounds k d2, offExact_bounds k d2, sensExact_bounds k d2, tempExact_bounds k d2,
      d1_mul_sensExact_bounds k d1 d2, xExact_bounds k d1 d2, xExact_sub_offExact_bounds k d1 d2, pExact_bounds k d1 d2⟩,
    ?_, ?_, ?_, ?_, ?_, ?_, ?_, ?_, ?_, attained_pExact_lowCorner, attained_pExact_highCorner⟩
  · have hc5 := k.c5.isLt
    omega
  all_goals exact attained_at_corners (by decide) (by decide)

/-! ### The 64-bit datapath is exact (R96, R97)

Every value of the datapath is the 64-bit word of the integer formula's value. Sums, differences and products keep this whether or
not they wrap; a division and a result keep it because the word holds its value, which R108 shows of each. -/

theorem ofInt_sub {n : Nat} (x y : Int) : BitVec.ofInt n (x - y) = BitVec.ofInt n x - BitVec.ofInt n y := by
  rw [Int.sub_eq_add_neg, BitVec.ofInt_add, BitVec.ofInt_neg, BitVec.sub_eq_add_neg]

theorem zext64_eq_ofInt {n : Nat} (v : BitVec n) : zext64 v = BitVec.ofInt 64 v.toNat := by
  rw [BitVec.ofInt_natCast, BitVec.ofNat_toNat, zext64]

theorem scale_eq_ofInt {k : Nat} (hk : k < 63) : scale k = BitVec.ofInt 64 (2 ^ k) := by
  rw [← toInt_scale hk, BitVec.ofInt_toInt]

/-- The word of a value holds it where this lies in an interval of signed 64-bit numbers. -/
theorem toInt_of_eq_ofInt {w : S64} {v lo hi : Int} (hw : w = BitVec.ofInt 64 v) (h : lo ≤ v ∧ v ≤ hi)
    (hlo : -2 ^ 63 ≤ lo) (hhi : hi < 2 ^ 63) : w.toInt = v := by
  rw [hw]
  exact BitVec.toInt_ofInt_eq_self (by decide) (hlo.trans h.1) (h.2.trans_lt hhi)

theorem tdiv64_ofInt {v : Int} {k : Nat} (hv : (BitVec.ofInt 64 v).toInt = v) (hk : k < 63) :
    tdiv64 (BitVec.ofInt 64 v) k = BitVec.ofInt 64 (tdiv v (2 ^ k)) := by
  rw [tdiv, ← hv, BitVec.ofInt_toInt, ← toInt_tdiv64 _ hk, BitVec.ofInt_toInt]

section

variable (k : Coefficients) (d1 d2 : U24)

theorem dT64_eq_ofInt : dT64 k d2 = BitVec.ofInt 64 (dTExact k d2) := by
  have hscale : scale 8 = BitVec.ofInt 64 256 := by decide
  rw [dT64, zext64_eq_ofInt, zext64_eq_ofInt, hscale, ← BitVec.ofInt_mul, ← ofInt_sub, dTExact]

/-- The one quotient of OFF and SENS: a u16 times dT, divided. -/
theorem tdiv64_word_mul_dT64 (w : U16) {e : Nat} (he : e < 63) :
    tdiv64 (zext64 w * dT64 k d2) e = BitVec.ofInt 64 (tdiv (w.toNat * dTExact k d2) (2 ^ e)) := by
  have hprod := toInt_of_eq_ofInt rfl (word_mul_dTExact_bounds k d2 w) (by decide) (by decide)
  rw [zext64_eq_ofInt, dT64_eq_ofInt, ← BitVec.ofInt_mul, tdiv64_ofInt hprod he]

theorem off64_eq_ofInt : off64 k (dT64 k d2) = BitVec.ofInt 64 (offExact k d2) := by
  rw [off64, tdiv64_word_mul_dT64 k d2 k.c4 (by decide), zext64_eq_ofInt, scale_eq_ofInt (by decide), ← BitVec.ofInt_mul,
    ← BitVec.ofInt_add, offExact]

theorem sens64_eq_ofInt : sens64 k (dT64 k d2) = BitVec.ofInt 64 (sensExact k d2) := by
  rw [sens64, tdiv64_word_mul_dT64 k d2 k.c3 (by decide), zext64_eq_ofInt, scale_eq_ofInt (by decide), ← BitVec.ofInt_mul,
    ← BitVec.ofInt_add, sensExact]

theorem temp64_eq_ofInt : temp64 k (dT64 k d2) = BitVec.ofInt 64 (tempExact k d2) := by
  have hprod := toInt_of_eq_ofInt rfl (dTExact_mul_c6_bounds k d2) (by decide) (by decide)
  rw [temp64, dT64_eq_ofInt, zext64_eq_ofInt, ← BitVec.ofInt_mul, tdiv64_ofInt hprod (by decide), tempExact,
    BitVec.ofInt_add, BitVec.ofInt_ofNat]

theorem x64_eq_ofInt : x64 d1 (sens64 k (dT64 k d2)) = BitVec.ofInt 64 (xExact k d1 d2) := by
  have hprod := toInt_of_eq_ofInt rfl (d1_mul_sensExact_bounds k d1 d2) (by decide) (by decide)
  rw [x64, sens64_eq_ofInt, zext64_eq_ofInt, ← BitVec.ofInt_mul, tdiv64_ofInt hprod (by decide), xExact]

theorem p64_eq_ofInt : p64 (x64 d1 (sens64 k (dT64 k d2))) (off64 k (dT64 k d2)) = BitVec.ofInt 64 (pExact k d1 d2) := by
  have hdiff := toInt_of_eq_ofInt rfl (xExact_sub_offExact_bounds k d1 d2) (by decide) (by decide)
  rw [p64, x64_eq_ofInt, off64_eq_ofInt, ← ofInt_sub, tdiv64_ofInt hdiff (by decide), pExact]

theorem toInt_temp_comp : (comp k d1 d2).temp.toInt = tempExact k d2 :=
  toInt_of_eq_ofInt (temp64_eq_ofInt k d2) (tempExact_bounds k d2) (by decide) (by decide)

theorem toInt_pressure_comp : (comp k d1 d2).pressure.toInt = pExact k d1 d2 :=
  toInt_of_eq_ofInt (p64_eq_ofInt k d1 d2) (pExact_bounds k d1 d2) (by decide) (by decide)

end

/-- Settles O33: each value is the word of the formula's value, which lies in its interval of R108, so that the word holds it. -/
theorem datapathIsExact : Obligations.DatapathIsExact := fun k d1 d2 =>
  ⟨toInt_of_eq_ofInt (dT64_eq_ofInt k d2) (dTExact_bounds k d2) (by decide) (by decide),
    toInt_of_eq_ofInt (off64_eq_ofInt k d2) (offExact_bounds k d2) (by decide) (by decide),
    toInt_of_eq_ofInt (sens64_eq_ofInt k d2) (sensExact_bounds k d2) (by decide) (by decide),
    toInt_of_eq_ofInt (x64_eq_ofInt k d1 d2) (xExact_bounds k d1 d2) (by decide) (by decide),
    toInt_temp_comp k d1 d2, toInt_pressure_comp k d1 d2⟩

/-! ### Where the block compensates (R111, R117) -/

theorem compensateStep_of_held {s : State} {k : Coefficients} {d1 d2 : U24} (hk : coefficients s.cal = some k)
    (h1 : s.d1 = some d1) (h2 : s.d2 = some d2) :
    compensateStep s = .next { s with last := some (comp k d1 d2) } := by
  rw [compensateStep, hk, h1, h2]

/-- COMPENSATE, the last micro-step of readCycle: LAST is written and the operation ends with Ok. -/
theorem performMicroStep_compensate_of_held {s : State} {k : Coefficients} {d1 d2 : U24} (hf : s.fault = none)
    (hmpc : s.mpc = ⟨.readCycle, 7⟩) (hk : coefficients s.cal = some k) (h1 : s.d1 = some d1) (h2 : s.d2 = some d2) :
    performMicroStep .compensate s = .next { s with
      last := some (comp k d1 d2)
      mpc := ⟨.none, 0⟩
      returned := s.returned ++ [⟨.readCycle, .ok⟩] } := by
  rw [performMicroStep_compensate (compensateStep_of_held hk h1 h2), advanceUnlessEnded_running (by exact hf) (by simp [hmpc]),
    State.advance_mpc_last _ (by simp [hmpc, sequence]), hmpc]
  rfl

/-- Settles O25: COMPENSATE writes LAST alone, with a reading that is exact, and its completion ends readCycle. -/
theorem compensateReplacesLast : Obligations.CompensateReplacesLast := by
  intro s rest k d1 d2 hf hs hmpc hk h1 h2
  have hstep : step s = performMicroStep .compensate { s with schedule := rest } :=
    step_micro hf hs (by simp [hmpc]) (by simp [hmpc, sequence])
  exact ⟨comp k d1 d2, toInt_temp_comp k d1 d2, toInt_pressure_comp k d1 d2,
    hstep.trans (performMicroStep_compensate_of_held hf hmpc hk h1 h2)⟩

theorem compensateCall_not_calibrated {s : State} (d1 d2 : U24) (hv : s.calValid = false) :
    compensateCall d1 d2 s = .next (s.giveBack .compensate (.err .notCalibrated)) := if_pos hv

theorem compensateCall_calibrated {s : State} {k : Coefficients} (d1 d2 : U24) (hv : s.calValid = true)
    (hk : coefficients s.cal = some k) :
    compensateCall d1 d2 s = .next (s.giveBack .compensate (.okReading (comp k d1 d2))) := by
  rw [compensateCall, if_neg (by simp [hv]), hk]

/-- A call of compensate that gives a next state is one of these two. -/
theorem compensateCall_next {s t : State} {d1 d2 : U24} (h : compensateCall d1 d2 s = .next t) :
    (s.calValid = false ∧ t = s.giveBack .compensate (.err .notCalibrated)) ∨
    (s.calValid = true ∧ ∃ k, coefficients s.cal = some k ∧
      t = s.giveBack .compensate (.okReading (comp k d1 d2))) := by
  cases hv : s.calValid with
  | false =>
    rw [compensateCall_not_calibrated d1 d2 hv] at h
    cases h
    exact .inl ⟨rfl, rfl⟩
  | true =>
    cases hk : coefficients s.cal with
    | none => simp [compensateCall, hv, hk] at h
    | some k =>
      rw [compensateCall_calibrated d1 d2 hv hk] at h
      cases h
      exact .inr ⟨rfl, k, rfl, rfl⟩

/-- `C[0]` and `C[7]` are no coefficients (R97). -/
theorem coefficients_set_reserved (cells : Cells) (w0 w7 : Option U16) :
    coefficients ((cells.set 0 w0).set 7 w7) = coefficients cells := by
  simp [coefficients]

/-- Settles O36: both read the calibration through `coefficients`, which the two reserved words do not reach. -/
theorem reservedWordsDoNotMatter : Obligations.ReservedWordsDoNotMatter := by
  intro s w0 w7 d1 d2 s'
  have hcoeff : coefficients s'.cal = coefficients s.cal := coefficients_set_reserved s.cal w0 w7
  constructor
  · intro t ht
    obtain ⟨k, e1, e2, hk, h1, h2, rfl⟩ := compensateStep_next ht
    exact ⟨_, compensateStep_of_held (hcoeff.trans hk) h1 h2, rfl⟩
  · intro t ht
    rcases compensateCall_next ht with ⟨hv, rfl⟩ | ⟨hv, k, hk, rfl⟩
    · exact ⟨_, compensateCall_not_calibrated d1 d2 hv, rfl⟩
    · exact ⟨_, compensateCall_calibrated d1 d2 hv (hcoeff.trans hk), rfl⟩

end Sys2Proof.Machine

/-! ## The host's operations (R112 to R119)

The queue of calls moves on only where the block's turn finds no operation in progress. A call is answered, or its sequence
starts, in that one step; what the sequences send is read off their commands' opcodes. -/

namespace Sys2Proof.Machine

/-! ### The bytes of the sequences (R114, R115, R116) -/

theorem convertOpcode_d1 (o : Osr) : convertOpcode .d1 o = 0x40#8 ||| (o.k.setWidth 8 <<< 1) := rfl

theorem convertOpcode_d2 (o : Osr) : convertOpcode .d2 o = 0x50#8 ||| (o.k.setWidth 8 <<< 1) := rfl

/-- Settles O26: each sequence is a literal list of micro-steps; only the two CONVERT bytes of readCycle depend on the
configuration, through the fields `ch` and `k`. -/
theorem sequencesSendTheirBytes : Obligations.SequencesSendTheirBytes := by
  intro g
  refine ⟨rfl, rfl, rfl, rfl, rfl, ?_⟩
  show [(Instr.convert .d1 g.osrD1).opcode, 0x00#8, (Instr.convert .d2 g.osrD2).opcode, 0x00#8] = _
  rw [opcode_convert, opcode_convert, convertOpcode_d1, convertOpcode_d2]

/-! ### The queue of calls (R112) -/

/-- Sending a single byte gives a next state only by running the command it is (R59, R126). -/
theorem sendCommand_next {b : Byte} {s t : State} (h : sendCommand b s = .next t) : ∃ i, exec i s = .next t := by
  cases hb : isCommandByte b with
  | false =>
    rw [sendCommand_reserved hb] at h
    cases h
  | true =>
    obtain ⟨i, rfl⟩ := isCommandByte_iff.mp hb
    exact ⟨i, sendCommand_opcode i s ▸ h⟩

theorem calls_of_exec {i : Instr} {s t : State} (h : exec i s = .next t) : t.calls = s.calls := by
  obtain ⟨-, -, -, -, -, -, hcalls, -⟩ := commandFrame i s t h
  exact hcalls

/-- No write of a step, and no completion of a micro-step, reaches the queue. -/
theorem calls_of_performMicroStep {m : MicroStep} {s t : State} (hm : s.currentMicroStep = some m)
    (h : performMicroStep m s = .next t) : t.calls = s.calls := by
  obtain ⟨v, hv, _, _, rfl⟩ := performMicroStep_written hm h
  cases hv <;> simp

/-- While an operation is in progress no event takes a call from the queue. -/
theorem calls_of_handle {e : Event} {s t : State} (h : handle e s = .next t) (hop : s.mpc.op ≠ .none) :
    t.calls = s.calls := by
  cases e with
  | tick d =>
    cases h
    rfl
  | reader r =>
    cases h
    rfl
  | command b =>
    obtain ⟨i, hi⟩ := sendCommand_next h
    exact calls_of_exec hi
  | run =>
    rcases blockTurn_next h with ⟨hnone, -⟩ | ⟨hnone, -⟩ | ⟨-, m, hm, hrun⟩
    · exact absurd hnone hop
    · exact absurd hnone hop
    · exact calls_of_performMicroStep hm hrun

/-- Taking the event itself moves neither the queue nor MPC. -/
theorem takeEvent_calls_mpc (s : State) : s.takeEvent.2.calls = s.calls ∧ s.takeEvent.2.mpc = s.mpc := by
  rcases takeEvent_eq s with ⟨e, rest, -, he⟩ | ⟨-, he⟩ <;> rw [he] <;> exact ⟨rfl, rfl⟩

theorem calls_of_step {s t : State} (h : step s = .next t) (hop : s.mpc.op ≠ .none) : t.calls = s.calls := by
  obtain ⟨-, hh⟩ := step_next h
  obtain ⟨hcalls, hmpc⟩ := takeEvent_calls_mpc s
  exact (calls_of_handle hh (hmpc ▸ hop)).trans hcalls

/-- Between operations, with no call waiting, the block's turn does nothing (R141). -/
theorem blockTurn_idle {s : State} (hop : s.mpc.op = .none) (hc : s.calls = []) : blockTurn s = .next s := by
  rw [blockTurn, if_pos hop, hc]

/-- Settles O28: an event during an operation takes no call; between operations the turn starts the one at the head. -/
theorem callsAreSerialised : Obligations.CallsAreSerialised := by
  refine ⟨fun s t => calls_of_step, fun s rest more hf hs hop => ⟨?_, ?_, ?_, ?_⟩⟩
  · exact step_call hf hs hop
  · exact step_call hf hs hop
  · exact step_call hf hs hop
  · intro hc
    rw [step_scheduled hf hs]
    exact blockTurn_idle (s := { s with schedule := rest }) hop hc

/-! ### compensate (R117) -/

/-- Settles O29: the call is the model's `compensateCall`, which gives one result back and whose reading is exact. (That function
has this theorem's plain name.) -/
theorem compensateCallAnswered : Obligations.CompensateCall := by
  intro s rest more d1 d2 hf hs hop hc
  have hstep := step_call hf hs hop hc
  refine ⟨fun hv => ?_, fun hv k hk => ?_⟩
  · exact hstep.trans (compensateCall_not_calibrated d1 d2 hv)
  · exact ⟨comp k d1 d2, toInt_temp_comp k d1 d2, toInt_pressure_comp k d1 d2,
      hstep.trans (compensateCall_calibrated d1 d2 hv hk)⟩

/-! ### The readers of LAST (R118, R119) -/

theorem readOut_of_readResult {s : State} {r : Readout} {x : Result} (h : readResult r s.last = x) :
    s.readOut r = { s with returned := s.returned ++ [⟨r.caller, x⟩] } := by
  rw [State.readOut, h, State.giveBack]

/-- A concurrent reader is answered from LAST, whatever operation is in progress (R48). -/
theorem step_reader {s : State} {r : Readout} {rest : List Event} (hf : s.fault = none)
    (hs : s.schedule = .reader r :: rest) : step s = .next (({ s with schedule := rest } : State).readOut r) :=
  step_scheduled hf hs

/-- lastTemperature and lastPressure as the host's own calls (R113). -/
theorem step_read {s : State} {r : Readout} {rest : List Event} {more : List HostCall} (hf : s.fault = none)
    (hs : s.schedule = .run :: rest) (hop : s.mpc.op = .none) (hc : s.calls = .read r :: more) :
    step s = .next (({ s with schedule := rest, calls := more } : State).readOut r) :=
  step_call hf hs hop hc

/-- Settles O30: the reader's result is `readResult` of LAST, which is Err(NoReading) or the reading held, by LAST's two cases. -/
theorem readersReturnLast : Obligations.ReadersReturnLast := by
  intro s rest hf
  refine ⟨fun hs => (step_reader hf hs).trans (congrArg _ (readOut_of_readResult ?_)),
    fun hs => (step_reader hf hs).trans (congrArg _ (readOut_of_readResult ?_))⟩
  · cases s.last <;> rfl
  · cases s.last <;> rfl

/-- Settles O31: the host's call and the reader are the same reading, of the state without the call. -/
theorem hostReadsLast : Obligations.HostReadsLast := by
  intro s rest more r hf hs hop hc
  rw [step_read hf hs hop hc]
  exact (step_reader (s := { s with schedule := .reader r :: rest, calls := more }) hf rfl).symm

end Sys2Proof.Machine

/-! ## Errors, results and the time (R127, R129, R135)

A failed transfer's effects are those of one state, whatever the command. The results returned are followed through a step
together with the operation in progress: an operation ends only where its result is appended. -/

namespace Sys2Proof.Machine

open Sys2Proof.Safety

/-! ### A failed transfer (R129) -/

/-- A command whose two conditions of R72 hold, and which gets no response, has the TransportFailure effects. -/
theorem exec_of_no_response {i : Instr} {s : State} (hf : s.fault = none) (hctl : ctlCondition i s)
    (htime : timeCondition i s) (hr : s.response i = none) : exec i s = .next (failedState i.opcode s) := by
  have hg : execGuard i s = none := (execGuard_eq_none i s).mpr ⟨hctl, htime⟩
  rw [exec_eq_command, command.eq_def, hf, hg, hr]
  rfl

/-- Settles O12: either kind of failing answer gives no response, and the state that leaves is the same for every command. -/
theorem transportFailureEffects : Obligations.TransportFailureEffects := by
  intro i s hf hctl htime hfails
  have hr : s.response i = none := response_eq_none_iff.mpr hfails
  exact ⟨_, exec_of_no_response hf hctl htime hr, rfl, rfl, rfl, rfl, rfl, rfl, rfl, rfl, rfl, rfl, hf⟩

/-! ### The time source (R135) -/

/-- A command and a micro-step happen at one value of Now() (R71). -/
theorem now_of_written {s u v : State} (h : Written s u v) : v.now = u.now := by
  cases h <;> simp

/-- Settles O43: only the passing of time taken with the event moves Now(), and it adds. -/
theorem timeNeverDecreases : Obligations.TimeNeverDecreases := by
  refine ⟨fun s t hstep => ?_, fun s d rest hf hs => step_scheduled hf hs⟩
  obtain ⟨u, v, hu, hv, m, r, rfl⟩ := step_written hstep
  calc s.now ≤ u.now := hu.now
    _ = v.now := (now_of_written hv).symm

/-! ### The results returned (R127, R131) -/

/-- From `s` to `t` nothing was returned and the same operation is in progress, or it ended with its one result. -/
def Reported (s t : State) : Prop :=
  (t.returned = s.returned ∧ t.mpc.op = s.mpc.op) ∨
  (t.mpc.op = .none ∧ ∃ r, t.returned = s.returned ++ [⟨s.mpc.op.caller, r⟩])

theorem reported_returnErr (s : State) (k : ErrorKind) : Reported s (s.returnErr k) := .inr ⟨rfl, _, rfl⟩

/-- A micro-step completed goes on with its sequence, or returns Ok (R71). -/
theorem reported_advance {s v : State} (hr : v.returned = s.returned) (hop : v.mpc.op = s.mpc.op) :
    Reported s v.advance := by
  by_cases hlen : v.mpc.idx + 1 < (sequence v.config v.mpc.op).length
  · rw [State.advance_mpc_next v hlen]
    exact .inl ⟨hr, hop⟩
  · rw [State.advance_mpc_last v hlen, hr, hop]
    exact .inr ⟨rfl, _, rfl⟩

/-- An operation that has ended is not completed once more, so that no second result is returned. -/
theorem Reported.advanceUnlessEnded {s v : State} (h : Reported s v) : Reported s v.advanceUnlessEnded := by
  rcases h with ⟨hr, hop⟩ | ⟨hop, hr⟩
  · unfold State.advanceUnlessEnded
    split
    · exact reported_advance hr hop
    · exact .inl ⟨hr, hop⟩
  · rw [advanceUnlessEnded_ended hop]
    exact .inr ⟨hop, hr⟩

theorem reported_waitStep (s : State) : Reported s s.waitStep := by
  unfold State.waitStep
  split
  · exact reported_advance rfl rfl
  · exact .inl ⟨rfl, rfl⟩

theorem reported_beginCycle (s : State) : Reported s s.beginCycle := by
  rcases beginCycle_cases s with ⟨-, he⟩ | ⟨-, -, he⟩ | ⟨-, -, he⟩ | ⟨-, -, he⟩ <;> rw [he]
  · exact reported_returnErr s _
  · exact reported_returnErr s _
  · exact .inl ⟨rfl, rfl⟩
  · exact .inl ⟨rfl, rfl⟩

@[simp] theorem execWrites_returned (i : Instr) (s : State) (rx : List Byte) (t : State) :
    (execWrites i s rx t).returned = t.returned := by
  cases i <;> simp [execWrites]

/-- A command returns a result only when its transfer fails, which ends the operation (R129). -/
theorem reported_of_exec {i : Instr} {s t : State} (h : exec i s = .next t) : Reported s t := by
  obtain ⟨-, ⟨k, -, rfl⟩ | ⟨-, -, rfl⟩ | ⟨-, rx, -, rfl⟩⟩ := exec_next h
  · exact .inl ⟨rfl, rfl⟩
  · exact .inr ⟨rfl, _, rfl⟩
  · exact .inl (by simp)

theorem reported_of_performMicroStep {m : MicroStep} {s t : State} (h : performMicroStep m s = .next t) :
    Reported s t := by
  rcases performMicroStep_next h with ⟨i, v, -, hv, rfl⟩ | ⟨-, rfl⟩ | ⟨-, rfl⟩ | ⟨-, rfl⟩ | ⟨-, v, hv, rfl⟩ |
    ⟨-, v, hv, rfl⟩
  · exact (reported_of_exec hv).advanceUnlessEnded
  · exact reported_waitStep s
  · exact (reported_beginCycle s).advanceUnlessEnded
  · exact reported_advance rfl rfl
  · have hcommit : Reported s v := by
      obtain ⟨-, rfl | rfl⟩ := loadCommit_next hv
      · exact .inl ⟨rfl, rfl⟩
      · exact reported_returnErr s _
    exact hcommit.advanceUnlessEnded
  · obtain ⟨k, d1, d2, -, -, -, rfl⟩ := compensateStep_next hv
    have hcomp : Reported s { s with last := some (comp k d1 d2) } := .inl ⟨rfl, rfl⟩
    exact hcomp.advanceUnlessEnded

/-- At most one result was returned from `s` to `t`, and where that ended an operation, exactly one, to its caller (R127). -/
def ResultsReach (s t : State) : Prop :=
  (∃ l, t.returned = s.returned ++ l ∧ l.length ≤ 1) ∧
  (s.mpc.op ≠ .none → t.mpc.op = .none → ∃ r, t.returned = s.returned ++ [⟨s.mpc.op.caller, r⟩])

theorem Reported.resultsReach {s t : State} (h : Reported s t) : ResultsReach s t := by
  rcases h with ⟨hr, hop⟩ | ⟨-, r, hr⟩
  · exact ⟨⟨[], by simp [hr]⟩, fun hrun hend => absurd (hop.symm.trans hend) hrun⟩
  · exact ⟨⟨_, hr, le_refl 1⟩, fun _ _ => ⟨r, hr⟩⟩

/-- A reading or a compensation given back ends no operation. -/
theorem resultsReach_giveBack (s : State) (w : Caller) (r : Result) : ResultsReach s (s.giveBack w r) :=
  ⟨⟨_, rfl, le_refl 1⟩, fun hrun hend => absurd hend hrun⟩

theorem resultsReach_beginOp {s : State} {o : OpName} (ho : o ≠ .none) : ResultsReach s (s.beginOp o) :=
  ⟨⟨[], (List.append_nil _).symm, Nat.zero_le 1⟩, fun _ hend => absurd hend ho⟩

/-- Settles O32: a command or micro-step that ends the operation has appended its result, and no other event ends one. -/
theorem resultsReachTheHost : Obligations.ResultsReachTheHost := by
  intro s t hstep
  obtain ⟨-, u, hu, hh⟩ := step_cases hstep
  have hreach : ResultsReach u t := by
    cases hh with
    | time d eq => exact eq ▸ Reported.resultsReach (.inl ⟨rfl, rfl⟩)
    | idle _ eq => exact eq ▸ Reported.resultsReach (.inl ⟨rfl, rfl⟩)
    | read r eq => exact eq ▸ resultsReach_giveBack u _ _
    | answer _ r eq => exact eq ▸ resultsReach_giveBack u _ r
    | start _ o real eq => exact eq ▸ resultsReach_beginOp real
    | single b _ i run _ => exact (reported_of_exec run).resultsReach
    | micro _ m _ run _ => exact (reported_of_performMicroStep run).resultsReach
  rwa [ResultsReach, hu.returned, hu.mpc] at hreach

end Sys2Proof.Machine
